-- ==== Sys2Proof/Word.lean ====
section
/-! DEFINITION. The word types of PNG-CORE: bytes, 32-bit bus words and binary64 patterns
(00_scope.md R16, R19; 30_encoding.md R110). -/

namespace Sys2Proof

/-- One byte of the PCM output stream (20_memory.md R88). -/
abbrev Byte := BitVec 8

/-- One 32-bit data word of a host access (30_encoding.md R110). -/
abbrev Word32 := BitVec 32

/-- An IEEE 754 binary64 value, held as its 64-bit pattern (00_scope.md R16, R19). -/
abbrev F64 := BitVec 64

end Sys2Proof
end

