-- ==== Sys2Proof/Syntax.lean ====
section
/-! DEFINITION. The instructions of PNG-CORE: every host access and every core operation of
spec/opcode_table.json, and the packets they are read from (30_encoding.md R110, R111, R125). -/

namespace Sys2Proof

/-- The direction of a host access (30_encoding.md R110 field W). -/
inductive BusDir where
  | read
  | write
deriving DecidableEq, Repr

/-- The width of a host access in bits; only 32 is accepted (20_memory.md R82, R83). -/
inductive BusWidth where
  | w8
  | w16
  | w32
  | w64
deriving DecidableEq, Repr

/-- The widths that have no descriptor (30_encoding.md R111, the row of format MMIO8/MMIO16/MMIO64). -/
inductive OddWidth where
  | w8
  | w16
  | w64
deriving DecidableEq, Repr

/-- What a 32-bit access carries beside its offset: a write carries a data word, a read none
(30_encoding.md R110). -/
inductive Payload where
  | read
  | write (data : Word32)
deriving DecidableEq, Repr

/-- The register that an aligned offset selects: the operand form of every 32-bit access
(20_memory.md R90; 30_encoding.md R112, R122, R123). -/
inductive Reg where
  | ctrl
  | status
  | tier
  | channels
  | outPeriods
  | seed
  | previewCount
  | sampleIndexLo
  | sampleIndexHi
  | totalLo
  | totalHi
  | energyLo
  | energyHi
  | previewLo (k : BitVec 10)
  | previewHi (k : BitVec 10)
  | reserved (off : BitVec 14)
deriving DecidableEq, Repr

/-- The four biquad sections in series order (43_biquad.md R210). -/
inductive BqSection where
  | hp1
  | hp2
  | lp1
  | lp2
deriving DecidableEq, Repr

/-- What one slot of the schedule carries before it is decoded (log 15): a 32-bit access as its
descriptor word and its data word (30_encoding.md R110, R130), an access of another width, which has
no descriptor (R111), or the id of a core operation (R125). -/
inductive Packet where
  | mmio32 (desc : BitVec 16) (data : Option Word32)
  | mmioOther (width : OddWidth) (dir : BusDir) (off : BitVec 14)
  | coreOp (id : Byte)
deriving DecidableEq, Repr

/-- Why a packet is no word of PNG-CORE (log 14). -/
inductive DecodeError where
  /-- The descriptor has 15 bits, and bit 15 of its word is set. -/
  | descriptorBit15
  /-- A read that comes with a data word. -/
  | readCarriesData
  /-- A write that comes without its data word. -/
  | writeLacksData
  /-- A core operation id has 4 bits, and the byte holds more. -/
  | coreIdAbove15
deriving DecidableEq, Repr

/-- One constructor per mnemonic of spec/opcode_table.json, in the table's order. Rows of one mnemonic
are the aligned blocks of one range of offsets (30_encoding.md R111). -/
inductive Instr where
  | rd32Ctrl
  | wr32Ctrl (data : Word32)
  | rd32Status
  | wr32Status (data : Word32)
  | rd32Tier
  | wr32Tier (data : Word32)
  | rd32Channels
  | wr32Channels (data : Word32)
  | rd32OutPeriods
  | wr32OutPeriods (data : Word32)
  | rd32Seed
  | wr32Seed (data : Word32)
  | rd32PreviewCount
  | wr32PreviewCount (data : Word32)
  | rd32SampleIndexLo
  | wr32SampleIndexLo (data : Word32)
  | rd32SampleIndexHi
  | wr32SampleIndexHi (data : Word32)
  | rd32TotalLo
  | wr32TotalLo (data : Word32)
  | rd32TotalHi
  | wr32TotalHi (data : Word32)
  | rd32EnergyLo
  | wr32EnergyLo (data : Word32)
  | rd32EnergyHi
  | wr32EnergyHi (data : Word32)
  | rd32PreviewLo (k : BitVec 10)
  | rd32PreviewHi (k : BitVec 10)
  | wr32PreviewLo (k : BitVec 10) (data : Word32)
  | wr32PreviewHi (k : BitVec 10) (data : Word32)
  | rd32Reserved (off : BitVec 14)
  | wr32Reserved (off : BitVec 14) (data : Word32)
  | busErrMisaligned (off : BitVec 14) (payload : Payload)
  | busErrWidth (width : OddWidth) (off : BitVec 14) (dir : BusDir)
  | prngStep
  | prngMap
  | pinkStep
  | bqHp1
  | bqHp2
  | bqLp1
  | bqLp2
  | limit
  | energyAcc
  | previewCap
  | pcmConv
  | pcmEmit
  | sampleStep
  | runEnd
  | reservedCoreOp14
  | reservedCoreOp15
deriving DecidableEq, Repr

/-- The direction of a payload. -/
def Payload.dir : Payload → BusDir
  | .read => .read
  | .write _ => .write

/-- The bus width that a width without a descriptor stands for. -/
def OddWidth.busWidth : OddWidth → BusWidth
  | .w8 => .w8
  | .w16 => .w16
  | .w64 => .w64

end Sys2Proof
end

