-- ==== Sys2Proof/Machine/Window.lean ====
section
/-! DEFINITION. The map of the 16 KiB register window: which register an offset selects and at which
offset a register stands (20_memory.md R82, R90; 30_encoding.md R112, R122, R123). -/

namespace Sys2Proof

/-- An offset the window accepts: a multiple of 4 (20_memory.md R82). -/
def isAligned (off : BitVec 14) : Bool :=
  off.toNat % 4 == 0

/-- The reserved offsets 0x01C, 0x038 to 0xFFC and 0x2F40 to 0x3FFC, each a multiple of 4
(30_encoding.md R123). -/
def isReservedOffset (off : BitVec 14) : Bool :=
  isAligned off &&
    (off.toNat == 0x01C || (decide (0x038 ≤ off.toNat) && decide (off.toNat ≤ 0xFFC)) ||
      decide (0x2F40 ≤ off.toNat))

/-- An index of the preview memory: 0 to 999 (30_encoding.md R122). -/
def isPreviewIndex (k : BitVec 10) : Bool :=
  decide (k.toNat < 1000)

/-- The offset of a register (20_memory.md R90). -/
def Reg.offset : Reg → BitVec 14
  | .ctrl => 0x000#14
  | .status => 0x004#14
  | .tier => 0x008#14
  | .channels => 0x00C#14
  | .outPeriods => 0x010#14
  | .seed => 0x014#14
  | .previewCount => 0x018#14
  | .sampleIndexLo => 0x020#14
  | .sampleIndexHi => 0x024#14
  | .totalLo => 0x028#14
  | .totalHi => 0x02C#14
  | .energyLo => 0x030#14
  | .energyHi => 0x034#14
  | .previewLo k => BitVec.ofNat 14 (0x1000 + 8 * k.toNat)
  | .previewHi k => BitVec.ofNat 14 (0x1004 + 8 * k.toNat)
  | .reserved off => off

/-- The registers below the preview range, with `none` for the reserved offsets among them. -/
def Reg.ofLowOffset (o : Nat) : Option Reg :=
  if o = 0x000 then some .ctrl
  else if o = 0x004 then some .status
  else if o = 0x008 then some .tier
  else if o = 0x00C then some .channels
  else if o = 0x010 then some .outPeriods
  else if o = 0x014 then some .seed
  else if o = 0x018 then some .previewCount
  else if o = 0x020 then some .sampleIndexLo
  else if o = 0x024 then some .sampleIndexHi
  else if o = 0x028 then some .totalLo
  else if o = 0x02C then some .totalHi
  else if o = 0x030 then some .energyLo
  else if o = 0x034 then some .energyHi
  else none

/-- The preview entry at an offset from 0x1000 to 0x2F3C: the low half where bit 2 is 0, the high half
where it is 1 (30_encoding.md R122). -/
def Reg.ofPreviewOffset (o : Nat) : Option Reg :=
  if 0x1000 ≤ o ∧ o < 0x2F40 then
    if (o - 0x1000) % 8 < 4 then some (.previewLo (BitVec.ofNat 10 ((o - 0x1000) / 8)))
    else some (.previewHi (BitVec.ofNat 10 ((o - 0x1000) / 8)))
  else none

/-- The register an aligned offset selects; any offset that is neither in the table of R112 nor in the
preview range is reserved (30_encoding.md R111). -/
def Reg.ofOffset (off : BitVec 14) : Reg :=
  match Reg.ofLowOffset off.toNat with
  | some r => r
  | none =>
    match Reg.ofPreviewOffset off.toNat with
    | some r => r
    | none => .reserved off

end Sys2Proof
end

