-- ==== Sys2Proof/WellFormed.lean ====
section
/-! DEFINITION. Which instructions are words of PNG-CORE: a preview index is below 1000, a reserved offset is
one of R123, a misaligned offset is no multiple of 4 (30_encoding.md R111, R122, R123, R132). -/

namespace Sys2Proof

/-- The check of one instruction. -/
def Instr.wf : Instr → Bool
  | .rd32Ctrl => true
  | .wr32Ctrl _ => true
  | .rd32Status => true
  | .wr32Status _ => true
  | .rd32Tier => true
  | .wr32Tier _ => true
  | .rd32Channels => true
  | .wr32Channels _ => true
  | .rd32OutPeriods => true
  | .wr32OutPeriods _ => true
  | .rd32Seed => true
  | .wr32Seed _ => true
  | .rd32PreviewCount => true
  | .wr32PreviewCount _ => true
  | .rd32SampleIndexLo => true
  | .wr32SampleIndexLo _ => true
  | .rd32SampleIndexHi => true
  | .wr32SampleIndexHi _ => true
  | .rd32TotalLo => true
  | .wr32TotalLo _ => true
  | .rd32TotalHi => true
  | .wr32TotalHi _ => true
  | .rd32EnergyLo => true
  | .wr32EnergyLo _ => true
  | .rd32EnergyHi => true
  | .wr32EnergyHi _ => true
  | .rd32PreviewLo k => isPreviewIndex k
  | .rd32PreviewHi k => isPreviewIndex k
  | .wr32PreviewLo k _ => isPreviewIndex k
  | .wr32PreviewHi k _ => isPreviewIndex k
  | .rd32Reserved off => isReservedOffset off
  | .wr32Reserved off _ => isReservedOffset off
  | .busErrMisaligned off _ => !isAligned off
  | .busErrWidth _ _ _ => true
  | .prngStep => true
  | .prngMap => true
  | .pinkStep => true
  | .bqHp1 => true
  | .bqHp2 => true
  | .bqLp1 => true
  | .bqLp2 => true
  | .limit => true
  | .energyAcc => true
  | .previewCap => true
  | .pcmConv => true
  | .pcmEmit => true
  | .sampleStep => true
  | .runEnd => true
  | .reservedCoreOp14 => true
  | .reservedCoreOp15 => true

end Sys2Proof
end

