-- ==== Sys2Proof/Decode.lean ====
section
/-! DEFINITION. The decoder of host access descriptors and core operation ids, total on every packet, and
the encoder beside it (30_encoding.md R110, R111, R125, R133). -/

namespace Sys2Proof

/-- The read of a register (30_encoding.md R112, R122, R123). -/
def readInstr : Reg → Instr
  | .ctrl => .rd32Ctrl
  | .status => .rd32Status
  | .tier => .rd32Tier
  | .channels => .rd32Channels
  | .outPeriods => .rd32OutPeriods
  | .seed => .rd32Seed
  | .previewCount => .rd32PreviewCount
  | .sampleIndexLo => .rd32SampleIndexLo
  | .sampleIndexHi => .rd32SampleIndexHi
  | .totalLo => .rd32TotalLo
  | .totalHi => .rd32TotalHi
  | .energyLo => .rd32EnergyLo
  | .energyHi => .rd32EnergyHi
  | .previewLo k => .rd32PreviewLo k
  | .previewHi k => .rd32PreviewHi k
  | .reserved off => .rd32Reserved off

/-- The write of a register (30_encoding.md R112, R122, R123). -/
def writeInstr (r : Reg) (data : Word32) : Instr :=
  match r with
  | .ctrl => .wr32Ctrl data
  | .status => .wr32Status data
  | .tier => .wr32Tier data
  | .channels => .wr32Channels data
  | .outPeriods => .wr32OutPeriods data
  | .seed => .wr32Seed data
  | .previewCount => .wr32PreviewCount data
  | .sampleIndexLo => .wr32SampleIndexLo data
  | .sampleIndexHi => .wr32SampleIndexHi data
  | .totalLo => .wr32TotalLo data
  | .totalHi => .wr32TotalHi data
  | .energyLo => .wr32EnergyLo data
  | .energyHi => .wr32EnergyHi data
  | .previewLo k => .wr32PreviewLo k data
  | .previewHi k => .wr32PreviewHi k data
  | .reserved off => .wr32Reserved off data

/-- A 32-bit access: a bus error where OFF[1:0] is not 0, checked before the offset is decoded, and
otherwise the access of the register the offset selects (30_encoding.md R111; 60_exceptions.md R388). -/
def decodeAccess (off : BitVec 14) (p : Payload) : Instr :=
  if isAligned off then
    match p with
    | .read => readInstr (Reg.ofOffset off)
    | .write data => writeInstr (Reg.ofOffset off) data
  else .busErrMisaligned off p

/-- The core operation of an id (30_encoding.md R125). -/
def decodeCoreOp (id : Byte) : Except DecodeError Instr :=
  match id.toNat with
  | 0 => .ok .prngStep
  | 1 => .ok .prngMap
  | 2 => .ok .pinkStep
  | 3 => .ok .bqHp1
  | 4 => .ok .bqHp2
  | 5 => .ok .bqLp1
  | 6 => .ok .bqLp2
  | 7 => .ok .limit
  | 8 => .ok .energyAcc
  | 9 => .ok .previewCap
  | 10 => .ok .pcmConv
  | 11 => .ok .pcmEmit
  | 12 => .ok .sampleStep
  | 13 => .ok .runEnd
  | 14 => .ok .reservedCoreOp14
  | 15 => .ok .reservedCoreOp15
  | _ => .error .coreIdAbove15

/-- Bit 14 of a descriptor word, the field W: 1 for a write (30_encoding.md R110). -/
def descIsWrite (desc : BitVec 16) : Bool :=
  desc.getLsbD 14

/-- Bits 13:0 of a descriptor word, the field OFF (30_encoding.md R110). -/
def descOffset (desc : BitVec 16) : BitVec 14 :=
  desc.setWidth 14

/-- The decoder, total on packets (30_encoding.md R110, R111, R125). -/
def decode : Packet → Except DecodeError Instr
  | .mmio32 desc data =>
    if desc.getLsbD 15 then .error .descriptorBit15
    else
      match descIsWrite desc, data with
      | false, none => .ok (decodeAccess (descOffset desc) .read)
      | true, some d => .ok (decodeAccess (descOffset desc) (.write d))
      | false, some _ => .error .readCarriesData
      | true, none => .error .writeLacksData
  | .mmioOther width dir off => .ok (.busErrWidth width off dir)
  | .coreOp id => decodeCoreOp id

/-- The descriptor word of a read: W = 0, OFF (30_encoding.md R110). -/
def readDesc (off : BitVec 14) : BitVec 16 :=
  0#2 ++ off

/-- The descriptor word of a write: W = 1, OFF (30_encoding.md R110). -/
def writeDesc (off : BitVec 14) : BitVec 16 :=
  1#2 ++ off

/-- The packet of a register read. -/
def readPacket (r : Reg) : Packet :=
  .mmio32 (readDesc r.offset) none

/-- The packet of a register write. -/
def writePacket (r : Reg) (data : Word32) : Packet :=
  .mmio32 (writeDesc r.offset) (some data)

/-- The encoder: the packet of an instruction (30_encoding.md R110, R125, R130). -/
def encode : Instr → Packet
  | .rd32Ctrl => readPacket .ctrl
  | .wr32Ctrl d => writePacket .ctrl d
  | .rd32Status => readPacket .status
  | .wr32Status d => writePacket .status d
  | .rd32Tier => readPacket .tier
  | .wr32Tier d => writePacket .tier d
  | .rd32Channels => readPacket .channels
  | .wr32Channels d => writePacket .channels d
  | .rd32OutPeriods => readPacket .outPeriods
  | .wr32OutPeriods d => writePacket .outPeriods d
  | .rd32Seed => readPacket .seed
  | .wr32Seed d => writePacket .seed d
  | .rd32PreviewCount => readPacket .previewCount
  | .wr32PreviewCount d => writePacket .previewCount d
  | .rd32SampleIndexLo => readPacket .sampleIndexLo
  | .wr32SampleIndexLo d => writePacket .sampleIndexLo d
  | .rd32SampleIndexHi => readPacket .sampleIndexHi
  | .wr32SampleIndexHi d => writePacket .sampleIndexHi d
  | .rd32TotalLo => readPacket .totalLo
  | .wr32TotalLo d => writePacket .totalLo d
  | .rd32TotalHi => readPacket .totalHi
  | .wr32TotalHi d => writePacket .totalHi d
  | .rd32EnergyLo => readPacket .energyLo
  | .wr32EnergyLo d => writePacket .energyLo d
  | .rd32EnergyHi => readPacket .energyHi
  | .wr32EnergyHi d => writePacket .energyHi d
  | .rd32PreviewLo k => readPacket (.previewLo k)
  | .rd32PreviewHi k => readPacket (.previewHi k)
  | .wr32PreviewLo k d => writePacket (.previewLo k) d
  | .wr32PreviewHi k d => writePacket (.previewHi k) d
  | .rd32Reserved off => readPacket (.reserved off)
  | .wr32Reserved off d => writePacket (.reserved off) d
  | .busErrMisaligned off .read => .mmio32 (readDesc off) none
  | .busErrMisaligned off (.write d) => .mmio32 (writeDesc off) (some d)
  | .busErrWidth width off dir => .mmioOther width dir off
  | .prngStep => .coreOp 0#8
  | .prngMap => .coreOp 1#8
  | .pinkStep => .coreOp 2#8
  | .bqHp1 => .coreOp 3#8
  | .bqHp2 => .coreOp 4#8
  | .bqLp1 => .coreOp 5#8
  | .bqLp2 => .coreOp 6#8
  | .limit => .coreOp 7#8
  | .energyAcc => .coreOp 8#8
  | .previewCap => .coreOp 9#8
  | .pcmConv => .coreOp 10#8
  | .pcmEmit => .coreOp 11#8
  | .sampleStep => .coreOp 12#8
  | .runEnd => .coreOp 13#8
  | .reservedCoreOp14 => .coreOp 14#8
  | .reservedCoreOp15 => .coreOp 15#8

/-- The packet whose bits are `w`, numbered as spec/opcode_table.json numbers them: a row of up to 8 bits is a
core operation id, a longer row is a descriptor word whose bits 31:0 of DATA follow it from bit 16 on, and
the one row without bits (BUSERR_width) is an access that has no descriptor (log 15). -/
def packetOfBits (nbits w : Nat) : Packet :=
  if nbits = 0 then .mmioOther .w8 .read 0#14
  else if nbits ≤ 8 then .coreOp (BitVec.ofNat 8 w)
  else
    .mmio32 (BitVec.ofNat 16 w)
      (if descIsWrite (BitVec.ofNat 16 w) then some (BitVec.ofNat 32 (w >>> 16)) else none)

/-- The instruction the decoder reads from an instruction whose bits are `w`; `none` where it refuses. -/
def decodeTableWord (nbits w : Nat) : Option Instr :=
  match decode (packetOfBits nbits w) with
  | .ok i => some i
  | .error _ => none

end Sys2Proof
end

