-- ==== Sys2Proof/Config.lean ====
section
/-! DEFINITION. What an implementation of PNG-CORE fixes and the spec leaves open: the parameters PINK and BQ
(00_scope.md R11), REG_BASE (20_memory.md R81), and the free values, which nothing constrains. -/

namespace Sys2Proof

/-- The pink network's constants (42_pink.md R190): NP, the leaks `pa`, the gains `pg`, the direct weight
`pd`, the delayed weight `pe` and the output gain `pgain`. Only the first `np` of the six places of `pa`
and `pg` are used (log 8). -/
structure PinkConsts where
  np : Fin 7
  pa : Vector F64 6
  pg : Vector F64 6
  pd : F64
  pe : F64
  pgain : F64
deriving DecidableEq, Repr, Inhabited

/-- The five stored coefficients of a biquad section; a0 = 1 is implicit (43_biquad.md R211). -/
structure BqCoeffs where
  b0 : F64
  b1 : F64
  b2 : F64
  a1 : F64
  a2 : F64
deriving DecidableEq, Repr, Inhabited

/-- The coefficients of the four sections of one tier (43_biquad.md R211). -/
structure BqSet where
  hp1 : BqCoeffs
  hp2 : BqCoeffs
  lp1 : BqCoeffs
  lp2 : BqCoeffs
deriving DecidableEq, Repr, Inhabited

/-- The constant store, as far as the spec leaves its contents to the implementation
(10_state.md R48, R49; 20_memory.md R80): PINK, and BQ for tier 0 and tier 1. -/
structure ConstStore where
  pink : PinkConsts
  bqTier0 : BqSet
  bqTier1 : BqSet
deriving DecidableEq, Repr, Inhabited

/-- The constants of a tier: the period P, the increment S and C_MAP (10_state.md R46). -/
structure TierConsts where
  period : Nat
  increment : Nat
  cmap : F64
deriving DecidableEq, Repr, Inhabited

/-- The binary64 operations (00_scope.md R16), to name the operation a NaN comes from. -/
inductive FOp where
  | add
  | sub
  | mul
  | div
deriving DecidableEq, Repr

namespace Config

/-- Whether NP is 6 or 5 (90_conflicts.md C1); OPEN. -/
opaque sixPoles : Bool

/-- The parameter PINK but for NP (00_scope.md R11; 92_eei_decisions.md D10); OPEN. -/
opaque pinkValues : PinkConsts

/-- The parameter BQ of tier 0 (00_scope.md R11; 92_eei_decisions.md D11); OPEN. -/
opaque bqTier0 : BqSet

/-- The parameter BQ of tier 1 (00_scope.md R11; 92_eei_decisions.md D11); OPEN. -/
opaque bqTier1 : BqSet

/-- The constant store of the machine, with NP 5 or 6 (42_pink.md R190; log 7). -/
def constStore : ConstStore where
  pink := { pinkValues with np := if sixPoles then 6 else 5 }
  bqTier0 := bqTier0
  bqTier1 := bqTier1

/-- REG_BASE, the platform's base address of the register window (20_memory.md R81); OPEN (log 18). -/
opaque regBase : Nat

/-- FREE VALUE: the constants of a reserved TIER value, which never reach the datapath in a run
(41_prng.md R173; log 11). -/
opaque reservedTier : BitVec 2 → TierConsts

/-- FREE VALUE: the coefficients of a reserved TIER value (43_biquad.md R211 gives tiers 0 and 1; log 11). -/
opaque reservedBq : BitVec 2 → BqSet

/-- FREE VALUE: the pattern of a NaN that an operation produces (00_scope.md R16 states none; log 9). -/
opaque nanBits : FOp → F64 → F64 → F64

/-- FREE VALUE: PCM_CONV of a NaN or an infinity, which is not defined (46_pcm_formatter.md R290; log 10). -/
opaque pcmOfNonFinite : F64 → Word32

/-- FREE VALUE: whether an output index is a capture index where STRIDE is 0, in states no run reaches
(45_accumulator.md R263; log 12). -/
opaque captureAtStrideZero : Nat → Bool

/-- FREE VALUE: SAMPLE_INDEX after its largest value, in states no run reaches (10_state.md R40 says that it
never wraps; log 13). -/
opaque indexPastEnd : BitVec 64

end Config

end Sys2Proof
end

