-- ==== Sys2Proof/Machine/Constants.lean ====
section
/-! DEFINITION. The constants that the spec fixes (00_scope.md R10; 10_state.md R46, R47; 30_encoding.md R129). -/

namespace Sys2Proof.Machine

/-- A, the LCG multiplier of both tiers (10_state.md R46). -/
def lcgMultiplier : Nat := 1664525

/-- Tier 0, 48000 Hz (10_state.md R46; 41_prng.md R173). -/
def tier0Consts : TierConsts where
  period := 524288
  increment := 52737
  cmap := 0x3ED0000200004000#64

/-- Tier 1, 96000 Hz (10_state.md R46; 41_prng.md R173). -/
def tier1Consts : TierConsts where
  period := 1048576
  increment := 163841
  cmap := 0x3EC0000100001000#64

/-- The constants that TIER selects (10_state.md R46); free for the reserved values 2 and 3 (log 11). -/
def tierConsts (tier : BitVec 2) : TierConsts :=
  if tier = 0#2 then tier0Consts
  else if tier = 1#2 then tier1Consts
  else Config.reservedTier tier

/-- The coefficients `BQ[TIER]` (43_biquad.md R211); free for the reserved values 2 and 3 (log 11). -/
def tierCoeffs (store : ConstStore) (tier : BitVec 2) : BqSet :=
  if tier = 0#2 then store.bqTier0
  else if tier = 1#2 then store.bqTier1
  else Config.reservedBq tier

/-- The coefficients of one section (43_biquad.md R213 to R216). -/
def sectionCoeffs (set : BqSet) : BqSection → BqCoeffs
  | .hp1 => set.hp1
  | .hp2 => set.hp2
  | .lp1 => set.lp1
  | .lp2 => set.lp2

/-- +0.0, the reset value of every binary64 register (30_encoding.md R129). -/
def posZero : F64 := 0x0000000000000000#64

/-- 1.0, subtracted in PRNG_MAP (30_encoding.md R129). -/
def oneF : F64 := 0x3FF0000000000000#64

/-- L, the limiter's ceiling (10_state.md R47; 44_limiter.md R242). -/
def ceilingL : F64 := 0x3FD57012E19E480D#64

/-- -L (30_encoding.md R129). -/
def negCeilingL : F64 := 0xBFD57012E19E480D#64

/-- The PCM scale 2147483647.0 = 2^31 - 1 (30_encoding.md R129; 46_pcm_formatter.md R290). -/
def pcmScale : F64 := 0x41DFFFFFFFC00000#64

/-- The number of preview entries (45_accumulator.md R263; 00_scope.md R10). -/
def previewLength : Nat := 1000

end Sys2Proof.Machine
end

