-- ==== Sys2Proof/Machine/Binary64.lean ====
section
/-! DEFINITION. IEEE 754 binary64 arithmetic on bit patterns: every operation computes its exact result over
the integers and rounds it once, to nearest, ties to even; subnormals and the sign of zero are kept
(00_scope.md R16, R17; 92_eei_decisions.md D3, D4).

Every finite binary64 value is an integer multiple of 2^-1074, the smallest subnormal. `scaled` is that
integer, so that sums are exact integer sums, and one rounding function serves all operations. -/

namespace Sys2Proof.Machine

/-- The sign bit of a pattern. -/
def signBit (v : F64) : Bool :=
  v.msb

/-- The biased exponent field, bits 62:52. -/
def expField (v : F64) : Nat :=
  v.toNat / 2 ^ 52 % 2 ^ 11

/-- The fraction field, bits 51:0. -/
def fracField (v : F64) : Nat :=
  v.toNat % 2 ^ 52

/-- `isNaN` of 00_scope.md R20. -/
def isNaN (v : F64) : Bool :=
  expField v == 2047 && fracField v != 0

/-- `isInf` of 00_scope.md R20. -/
def isInf (v : F64) : Bool :=
  expField v == 2047 && fracField v == 0

/-- Neither a NaN nor an infinity. -/
def isFinite (v : F64) : Bool :=
  expField v != 2047

/-- +0.0 or -0.0. -/
def isZero (v : F64) : Bool :=
  expField v == 0 && fracField v == 0

/-- The value 1.0 as a multiple of 2^-1074. -/
def unitScale : Nat :=
  2 ^ 1074

/-- The magnitude of a value as a multiple of 2^-1074; of an infinity it is 2^2098, above every finite
magnitude, so that comparisons read infinities right. -/
def magnitude (v : F64) : Nat :=
  if expField v = 0 then fracField v
  else (2 ^ 52 + fracField v) * 2 ^ (expField v - 1)

/-- The value as an integer multiple of 2^-1074. -/
def scaled (v : F64) : Int :=
  if signBit v then -(magnitude v : Int) else (magnitude v : Int)

/-- The value of a finite pattern as a rational number. -/
def ratOf (v : F64) : Rat :=
  (scaled v : Rat) / (unitScale : Rat)

/-- The magnitude bits (62:0) of an infinity. -/
def infBits : Nat :=
  0x7FF0000000000000

/-- The pattern with the given sign and magnitude bits. -/
def packBits (neg : Bool) (bits : Nat) : F64 :=
  BitVec.ofNat 64 ((if neg then 2 ^ 63 else 0) + bits)

/-- The integer nearest to `num / den`, an even one on a tie. -/
def roundQuotient (num den : Nat) : Nat :=
  if 2 * (num % den) < den ∨ (2 * (num % den) = den ∧ num / den % 2 = 0) then num / den
  else num / den + 1

/-- The magnitude bits of the binary64 value nearest to `num / den` (in multiples of 2^-1074), ties to even,
an infinity past the largest finite value. With `e` the number of bits beyond 53 of the quotient, the
significand is the quotient rounded to a multiple of 2^e, and since a binary64 pattern grows by one from
each value to the next, the bits are `e * 2^52` plus the significand, carries included. -/
def roundBits (num den : Nat) : Nat :=
  let e := (num / den).log2 - 52
  min (e * 2 ^ 52 + roundQuotient num (den * 2 ^ e)) infBits

/-- A NaN of the free pattern of log 9: the free value itself where it is a NaN, else one made of its bits. -/
def someNaN (op : FOp) (a b : F64) : F64 :=
  if isNaN (Config.nanBits op a b) then Config.nanBits op a b
  else Config.nanBits op a b ||| 0x7FF8000000000000#64

/-- The value with its sign turned. -/
def fneg (v : F64) : F64 :=
  v ^^^ 0x8000000000000000#64

/-- The correctly rounded sum of two finite values. An exact sum of zero is -0.0 only where both addends
are -0.0 (IEEE 754 round to nearest). -/
def finiteSum (a b : F64) : F64 :=
  if scaled a + scaled b = 0 then packBits (signBit a && signBit b) 0
  else packBits (decide (scaled a + scaled b < 0)) (roundBits (scaled a + scaled b).natAbs 1)

/-- The sum of any two values, with `nan` the NaN it gives where there is no number. -/
def sumOrNaN (nan a b : F64) : F64 :=
  if isNaN a || isNaN b then nan
  else if isInf a then (if isInf b && (signBit a != signBit b) then nan else a)
  else if isInf b then b
  else finiteSum a b

/-- `fl(a + b)` (00_scope.md R16). -/
def fadd (a b : F64) : F64 :=
  sumOrNaN (someNaN .add a b) a b

/-- `fl(a - b)` (00_scope.md R16). -/
def fsub (a b : F64) : F64 :=
  sumOrNaN (someNaN .sub a b) a (fneg b)

/-- `fl(a * b)` (00_scope.md R16). -/
def fmul (a b : F64) : F64 :=
  let neg := signBit a != signBit b
  if isNaN a || isNaN b then someNaN .mul a b
  else if isInf a || isInf b then
    (if isZero a || isZero b then someNaN .mul a b else packBits neg infBits)
  else packBits neg (roundBits (magnitude a * magnitude b) unitScale)

/-- `fl(a / b)` (00_scope.md R16). No core operation divides; the host's length derivation does
(47_run_control.md R361), and C_MAP is fl(2 / (P - 1)) (10_state.md R46). -/
def fdiv (a b : F64) : F64 :=
  let neg := signBit a != signBit b
  if isNaN a || isNaN b then someNaN .div a b
  else if isInf a then (if isInf b then someNaN .div a b else packBits neg infBits)
  else if isInf b then packBits neg 0
  else if isZero b then (if isZero a then someNaN .div a b else packBits neg infBits)
  else packBits neg (roundBits (unitScale * magnitude a) (magnitude b))

/-- The exact comparison `a < b`, false where an operand is a NaN (44_limiter.md R241). -/
def flt (a b : F64) : Bool :=
  !isNaN a && !isNaN b && decide (scaled a < scaled b)

/-- A natural number as binary64; exact below 2^53 (41_prng.md R171 converts SEED so). -/
def ofNatF (n : Nat) : F64 :=
  packBits false (roundBits (unitScale * n) 1)

/-- `trunc` of 00_scope.md R20 of a finite value: the integer nearest to it in the direction of zero. -/
def truncToInt (v : F64) : Int :=
  if signBit v then -((magnitude v / unitScale : Nat) : Int)
  else ((magnitude v / unitScale : Nat) : Int)

/-- `clamp` of 00_scope.md R20. -/
def clampInt (n lo hi : Int) : Int :=
  if n < lo then lo else if n > hi then hi else n

end Sys2Proof.Machine
end

