-- ==== Sys2Proof/Machine/State.lean ====
section
/-! DEFINITION. The state of PNG-CORE as plain data (10_state.md R31 to R50), the model's own fields, the
outcomes of a step, and the state after hardware reset (70_reset_and_hazards.md R420). -/

namespace Sys2Proof.Machine

/-- `fsm`, the run state (10_state.md R31). -/
inductive Fsm where
  | idle
  | busy
  | done
  | error
deriving DecidableEq, Repr

/-- The two-sample delay line of a biquad section (10_state.md R43). -/
structure DelayLine where
  w1 : F64
  w2 : F64
deriving DecidableEq, Repr

/-- The delay lines of the four sections, each private to its section (10_state.md R43; 43_biquad.md R217). -/
structure Cascade where
  hp1 : DelayLine
  hp2 : DelayLine
  lp1 : DelayLine
  lp2 : DelayLine
deriving DecidableEq, Repr

/-- MODEL'S OWN: the pipeline values that one stage passes to the next within a sample step: the white
sample `x`, the pink sample `p`, the outputs of the first three sections, the band-limited sample `y`, the
limited sample `s` and the PCM intermediate `n`. The spec does not count them as stored state
(41_prng.md R171; 46_pcm_formatter.md R290; log 5). -/
structure Wires where
  x : F64
  p : F64
  hp1 : F64
  hp2 : F64
  lp1 : F64
  y : F64
  s : F64
  n : Word32
deriving DecidableEq, Repr

/-- MODEL'S OWN: what the bus answered to the last host access (log 4). -/
inductive BusAnswer where
  /-- No access since reset. -/
  | none
  /-- A read's RDATA (30_encoding.md R110). -/
  | rdata (value : Word32)
  /-- A write has taken place, or has been ignored. -/
  | written
  /-- `BusError(offset, width, dir)` (60_exceptions.md R388). -/
  | busError (off : BitVec 14) (width : BusWidth) (dir : BusDir)
deriving DecidableEq, Repr

/-- MODEL'S OWN: one slot of the schedule. `hwReset` is the level of the platform's reset signal in the slot,
which takes precedence over the slot's packet; a slot without a packet is the core's turn
(47_run_control.md R330, R359; 70_reset_and_hazards.md R420; logs 1, 2, 3). -/
structure Slot where
  hwReset : Bool
  packet : Option Packet
deriving DecidableEq, Repr

/-- The machine. -/
structure State where
  /-- R31. -/
  fsm : Fsm
  /-- R32. -/
  tier : BitVec 2
  /-- R33. -/
  channels : BitVec 16
  /-- R34. -/
  outPeriods : BitVec 32
  /-- R35. -/
  ie : Bool
  /-- R37. -/
  errCode : BitVec 4
  /-- R38. -/
  total : BitVec 64
  /-- R40. -/
  sampleIndex : BitVec 64
  /-- R41. -/
  seed : BitVec 20
  /-- R42: `b[0] .. b[NP-1]` in the first NP places (log 8). -/
  b : Vector F64 6
  /-- R42. -/
  z : F64
  /-- R43. -/
  bq : Cascade
  /-- R44. -/
  energy : F64
  /-- R45. -/
  preview : Vector F64 1000
  /-- R45. -/
  previewCount : BitVec 11
  /-- R50: the bytes emitted since the last accepted START, the first one first. -/
  pcmOut : List Byte
  /-- R48, R49: the constant store, which no step writes (log 7). -/
  consts : ConstStore
  /-- The model's own (log 5). -/
  wires : Wires
  /-- The model's own (log 4). -/
  answer : BusAnswer
  /-- The model's own: the slots to come, the next one first (log 1). -/
  agenda : List Slot
deriving DecidableEq, Repr

/-- The one fault of the model. -/
inductive Fault where
  /-- `NonFinite(i)`: LIMIT met a NaN or an infinity in generated sample `i`; terminal (60_exceptions.md
  R389; 44_limiter.md R243). Raised by LIMIT, alone or within SAMPLE_STEP. Safe: the spec gives no state
  after it. -/
  | nonFinite (i : BitVec 64)
deriving DecidableEq, Repr

/-- Why a slot has no meaning. -/
inductive Refusal where
  /-- An instruction that has no meaning in the model yet; raised by `exec` alone. No arm of this model
  raises it. Safe. -/
  | notModelled (mnemonic : String)
  /-- Core operation ids 14 and 15, which are reserved and never performed (30_encoding.md R125). Raised by
  their two meanings. Safe: the spec gives them no effect. -/
  | reservedCoreOp (id : BitVec 4)
  /-- A packet that is no word of PNG-CORE (log 14). Raised by `step`. Safe: the spec gives it no effect. -/
  | undecodable (reason : DecodeError)
deriving DecidableEq, Repr

/-- What a meaning answers. -/
abbrev Result := Host.Outcome State Fault Refusal

/-- A delay line of +0.0 (10_state.md R43). -/
def DelayLine.zero : DelayLine where
  w1 := posZero
  w2 := posZero

/-- Every delay line at +0.0 (10_state.md R43). -/
def Cascade.zero : Cascade where
  hp1 := .zero
  hp2 := .zero
  lp1 := .zero
  lp2 := .zero

/-- The wires between two steps (log 5). -/
def Wires.idle : Wires where
  x := posZero
  p := posZero
  hp1 := posZero
  hp2 := posZero
  lp1 := posZero
  y := posZero
  s := posZero
  n := 0#32

/-- The values of 70_reset_and_hazards.md R420, for a machine with the constant store `store` and the slots
`slots` still to come: neither is changed by a hardware reset. -/
def State.afterReset (store : ConstStore) (slots : List Slot) : State where
  fsm := .idle
  tier := 0#2
  channels := 0#16
  outPeriods := 0#32
  ie := false
  errCode := 0#4
  total := 0#64
  sampleIndex := 0#64
  seed := 0#20
  b := Vector.replicate 6 posZero
  z := posZero
  bq := .zero
  energy := posZero
  preview := Vector.replicate 1000 posZero
  previewCount := 0#11
  pcmOut := []
  consts := store
  wires := .idle
  answer := .none
  agenda := slots

/-- The machine right after hardware reset, with nothing scheduled (70_reset_and_hazards.md R420, R421). -/
def State.reset : State :=
  State.afterReset Config.constStore []

end Sys2Proof.Machine
end

