-- ==== Sys2Proof/Machine/Flags.lean ====
section
/-! DEFINITION. The STATUS bits and the interrupt line: the only flags of PNG-CORE, all of them views of fsm,
ERRCODE and IE (10_state.md R36, R53; 30_encoding.md R114; 60_exceptions.md R391). -/

namespace Sys2Proof.Machine

/-- STATUS.BUSY (10_state.md R36). -/
def busyBit (s : State) : Bool :=
  decide (s.fsm = .busy)

/-- STATUS.DONE (10_state.md R36). -/
def doneBit (s : State) : Bool :=
  decide (s.fsm = .done)

/-- STATUS.ERR (10_state.md R36). -/
def errBit (s : State) : Bool :=
  decide (s.fsm = .error)

/-- The level of the interrupt line: IE and (DONE or ERR) (60_exceptions.md R391). -/
def irqLevel (s : State) : Bool :=
  s.ie && (doneBit s || errBit s)

/-- STATUS: `zext_32` of IRQ, ERRCODE, 0, ERR, DONE, BUSY, from bit 8 down (47_run_control.md R333). -/
def statusWord (s : State) : Word32 :=
  (BitVec.ofBool (irqLevel s) ++ s.errCode ++ 0#1 ++ BitVec.ofBool (errBit s) ++
    BitVec.ofBool (doneBit s) ++ BitVec.ofBool (busyBit s)).setWidth 32

end Sys2Proof.Machine
end

