-- ==== Sys2Proof/Machine/Operands.lean ====
section
/-! DEFINITION. What an operand reads: the value of every register of the window, the halves of 64-bit values,
and the quantities that the rules derive from the configuration (10_state.md R39, R46; 20_memory.md R84,
R85; 30_encoding.md R113 to R123). -/

namespace Sys2Proof.Machine

/-- Bits 31:0 of a 64-bit value, the low register (20_memory.md R85). -/
def lowHalf (v : BitVec 64) : Word32 :=
  v.setWidth 32

/-- Bits 63:32 of a 64-bit value, the high register (20_memory.md R85). -/
def highHalf (v : BitVec 64) : Word32 :=
  (v >>> 32).setWidth 32

/-- `PREVIEW[k]`; above entry 999 there is reserved space, which reads 0 (30_encoding.md R122, R123). -/
def previewEntry (s : State) (k : Nat) : F64 :=
  if h : k < 1000 then s.preview[k] else 0#64

/-- CTRL: bit 1 = IE, every other bit 0 (47_run_control.md R332). -/
def ctrlWord (s : State) : Word32 :=
  (BitVec.ofBool s.ie ++ 0#1).setWidth 32

/-- RDATA of a read of a register (47_run_control.md R332, R333, R336, R338, R340, R343 to R352, R354). -/
def regValue (s : State) : Reg → Word32
  | .ctrl => ctrlWord s
  | .status => statusWord s
  | .tier => s.tier.setWidth 32
  | .channels => s.channels.setWidth 32
  | .outPeriods => s.outPeriods
  | .seed => s.seed.setWidth 32
  | .previewCount => s.previewCount.setWidth 32
  | .sampleIndexLo => lowHalf s.sampleIndex
  | .sampleIndexHi => highHalf s.sampleIndex
  | .totalLo => lowHalf s.total
  | .totalHi => highHalf s.total
  | .energyLo => lowHalf s.energy
  | .energyHi => highHalf s.energy
  | .previewLo k => lowHalf (previewEntry s k.toNat)
  | .previewHi k => highHalf (previewEntry s k.toNat)
  | .reserved _ => 0#32

/-- The register window as 32-bit words, by the aligned offset (20_memory.md R82, R90). -/
def windowWord (s : State) (off : BitVec 14) : Word32 :=
  regValue s (Reg.ofOffset off)

/-- The register window as bytes, little-endian: the byte at offset 4n + k is bits 8k+7 : 8k of the register
at offset 4n (20_memory.md R84). -/
def windowByte (s : State) (a : BitVec 14) : Byte :=
  (windowWord s (a - BitVec.ofNat 14 (a.toNat % 4)) >>> (8 * (a.toNat % 4))).setWidth 8

/-- The constants of the tier of the run (41_prng.md R173). -/
def runConsts (s : State) : TierConsts :=
  tierConsts s.tier

/-- P of the tier (10_state.md R46). -/
def periodOf (s : State) : Nat :=
  (runConsts s).period

/-- NOUT = TOTAL - P, the number of output samples (10_state.md R39). -/
def noutOf (s : State) : Nat :=
  s.total.toNat - periodOf s

/-- STRIDE = floor(NOUT / 1000) (10_state.md R39; 45_accumulator.md R263). -/
def strideOf (s : State) : Nat :=
  noutOf s / previewLength

/-- Whether the sample SAMPLE_INDEX = i is an output sample, i >= P (45_accumulator.md R261). -/
def isOutputSample (s : State) : Bool :=
  decide (periodOf s ≤ s.sampleIndex.toNat)

/-- The output index j = i - P (00_scope.md R22). -/
def outputIndex (s : State) : Nat :=
  s.sampleIndex.toNat - periodOf s

/-- Whether output index `j` is a multiple of the stride (45_accumulator.md R263); free where the stride is
0, which no run has (log 12). -/
def isCaptureIndex (j stride : Nat) : Bool :=
  if stride = 0 then Config.captureAtStrideZero j else j % stride == 0

/-- The coefficients that section `sec` uses in the run (43_biquad.md R211). -/
def runCoeffs (s : State) (sec : BqSection) : BqCoeffs :=
  sectionCoeffs (tierCoeffs s.consts s.tier) sec

/-- The delay line of a section (43_biquad.md R217). -/
def delayLine (q : Cascade) : BqSection → DelayLine
  | .hp1 => q.hp1
  | .hp2 => q.hp2
  | .lp1 => q.lp1
  | .lp2 => q.lp2

/-- The cascade with the delay line of one section replaced (43_biquad.md R217). -/
def setDelayLine (q : Cascade) (d : DelayLine) : BqSection → Cascade
  | .hp1 => { q with hp1 := d }
  | .hp2 => { q with hp2 := d }
  | .lp1 => { q with lp1 := d }
  | .lp2 => { q with lp2 := d }

/-- The wire a section reads: the output of the block before it (43_biquad.md R210). -/
def sectionInput (w : Wires) : BqSection → F64
  | .hp1 => w.p
  | .hp2 => w.hp1
  | .lp1 => w.hp2
  | .lp2 => w.lp1

/-- The wires after a section has produced its output (43_biquad.md R210). -/
def setSectionOutput (w : Wires) (v : F64) : BqSection → Wires
  | .hp1 => { w with hp1 := v }
  | .hp2 => { w with hp2 := v }
  | .lp1 => { w with lp1 := v }
  | .lp2 => { w with y := v }

end Sys2Proof.Machine
end

