-- ==== Sys2Proof/Machine/Ops.lean ====
section
/-! DEFINITION. The shared operations: the answers of the bus, set_error, the two resets, START, the end of a
run, the sample counter, the output stream, and the fetch of the next slot. PNG-CORE takes no trap and
returns from none (60_exceptions.md R392, R393): set_error and the bus error answer are its whole exception
mechanism (R380). -/

namespace Sys2Proof.Machine

/-- The bus answers a read with RDATA; no other state changes (20_memory.md R87). -/
def answerRead (v : Word32) (s : State) : State :=
  { s with answer := .rdata v }

/-- The bus ends a write (20_memory.md R87). -/
def answerWrite (s : State) : State :=
  { s with answer := .written }

/-- `BusError(offset, width, dir)`: the answer to the access; no state of PNG-CORE changes
(60_exceptions.md R388). -/
def answerBusError (off : BitVec 14) (width : BusWidth) (dir : BusDir) (s : State) : State :=
  { s with answer := .busError off width dir }

/-- `set_error(code)`: fsm and ERRCODE, nothing else (60_exceptions.md R381). -/
def setError (code : BitVec 4) (s : State) : State :=
  { s with fsm := .error, errCode := code }

/-- Hardware reset: every state element at the value of 70_reset_and_hazards.md R420; the constant store is
unchanged, and the slots to come are the outside world's (log 3). -/
def hardwareReset (s : State) : State :=
  State.afterReset s.consts s.agenda

/-- TOTAL = (OUT_PERIODS + 1) * P (47_run_control.md R342). -/
def runTotal (s : State) : BitVec 64 :=
  BitVec.ofNat 64 ((s.outPeriods.toNat + 1) * periodOf s)

/-- An accepted START: the run-start reset, then the run begins (47_run_control.md R342). -/
def acceptStart (s : State) : State :=
  { s with
    total := runTotal s
    sampleIndex := 0#64
    seed := 0#20
    b := Vector.replicate 6 posZero
    z := posZero
    bq := .zero
    energy := posZero
    preview := Vector.replicate 1000 posZero
    previewCount := 0#11
    pcmOut := []
    errCode := 0#4
    fsm := .busy }

/-- BAD_TIER (30_encoding.md R124). -/
def badTier : BitVec 4 := 1#4

/-- BAD_CHANNELS (30_encoding.md R124). -/
def badChannels : BitVec 4 := 2#4

/-- BAD_LENGTH (30_encoding.md R124). -/
def badLength : BitVec 4 := 3#4

/-- START: validation in the order tier, channels, length; the first check that fails decides the code
(47_run_control.md R341; 60_exceptions.md R383). -/
def startRun (s : State) : State :=
  if s.tier ≠ 0#2 ∧ s.tier ≠ 1#2 then setError badTier s
  else if s.channels = 0#16 then setError badChannels s
  else if s.outPeriods = 0#32 then setError badLength s
  else acceptStart s

/-- A configuration write takes place only while fsm is not BUSY (47_run_control.md R335, R337, R339). -/
def configure (update : State → State) (s : State) : State :=
  if s.fsm = .busy then s else update s

/-- RUN_END: fsm <- DONE (47_run_control.md R357). -/
def endRun (s : State) : State :=
  { s with fsm := .done }

/-- SAMPLE_INDEX + 1 (47_run_control.md R355); free past the largest value, which no run reaches (log 13). -/
def nextIndex (i : BitVec 64) : BitVec 64 :=
  if i.toNat + 1 < 2 ^ 64 then i + 1#64 else Config.indexPastEnd

/-- `Emit` of a sequence of bytes: they are appended to PCM_OUT in order (20_memory.md R88). -/
def emitBytes (bytes : List Byte) (s : State) : State :=
  { s with pcmOut := s.pcmOut ++ bytes }

/-- The packet that stands for the core's own turn: core operation 12, SAMPLE_STEP (30_encoding.md R125). -/
def corePacket : Packet :=
  .coreOp 12#8

/-- A slot in which neither the platform nor the host acts (log 2). -/
def coreSlot : Slot where
  hwReset := false
  packet := none

/-- The slot that the next step takes: the head of the schedule, or the core's turn after its end
(47_run_control.md R359; log 2). -/
def nextSlot (s : State) : Slot :=
  s.agenda.headD coreSlot

/-- The state with that slot taken from the schedule. -/
def takeSlot (s : State) : State :=
  { s with agenda := s.agenda.tail }

/-- The packet of the next slot; the core's own where it holds none (log 2). -/
def fetchPacket (s : State) : Packet :=
  (nextSlot s).packet.getD corePacket

/-- The state with a packet scheduled before all other slots. -/
def schedulePacket (p : Packet) (s : State) : State :=
  { s with agenda := { hwReset := false, packet := some p } :: s.agenda }

end Sys2Proof.Machine
end

