-- ==== Sys2Proof/Machine/HostRead.lean ====
section
/-! DEFINITION. The register reads RD32 (47_run_control.md R332, R333, R336, R338, R340, R343 to R352, R354).
A read answers with the register's value and changes nothing else (20_memory.md R87). -/

namespace Sys2Proof.Machine

/-- A read of a register: the value of `regValue`, no side effect (20_memory.md R87, R92). -/
def readRegister (r : Reg) (s : State) : Result :=
  .next (answerRead (regValue s r) s)

/-- RD32 CTRL (R332). -/
def execRd32Ctrl (s : State) : Result := readRegister .ctrl s

/-- RD32 STATUS (R333); reading clears nothing. -/
def execRd32Status (s : State) : Result := readRegister .status s

/-- RD32 TIER (R336). -/
def execRd32Tier (s : State) : Result := readRegister .tier s

/-- RD32 CHANNELS (R338). -/
def execRd32Channels (s : State) : Result := readRegister .channels s

/-- RD32 OUT_PERIODS (R340). -/
def execRd32OutPeriods (s : State) : Result := readRegister .outPeriods s

/-- RD32 SEED (R343). -/
def execRd32Seed (s : State) : Result := readRegister .seed s

/-- RD32 PREVIEW_COUNT (R344). -/
def execRd32PreviewCount (s : State) : Result := readRegister .previewCount s

/-- RD32 SAMPLE_INDEX_LO (R345). -/
def execRd32SampleIndexLo (s : State) : Result := readRegister .sampleIndexLo s

/-- RD32 SAMPLE_INDEX_HI (R346). -/
def execRd32SampleIndexHi (s : State) : Result := readRegister .sampleIndexHi s

/-- RD32 TOTAL_LO (R347). -/
def execRd32TotalLo (s : State) : Result := readRegister .totalLo s

/-- RD32 TOTAL_HI (R348). -/
def execRd32TotalHi (s : State) : Result := readRegister .totalHi s

/-- RD32 ENERGY_LO (R349). -/
def execRd32EnergyLo (s : State) : Result := readRegister .energyLo s

/-- RD32 ENERGY_HI (R350). -/
def execRd32EnergyHi (s : State) : Result := readRegister .energyHi s

/-- RD32 PREVIEW_LO[k] (R351). -/
def execRd32PreviewLo (k : BitVec 10) (s : State) : Result := readRegister (.previewLo k) s

/-- RD32 PREVIEW_HI[k] (R352). -/
def execRd32PreviewHi (k : BitVec 10) (s : State) : Result := readRegister (.previewHi k) s

/-- RD32 at a reserved offset: 0x00000000, no error (R354). -/
def execRd32Reserved (off : BitVec 14) (s : State) : Result := readRegister (.reserved off) s

end Sys2Proof.Machine
end

