-- ==== Sys2Proof/Machine/HostWrite.lean ====
section
/-! DEFINITION. The register writes WR32 (47_run_control.md R331, R334, R335, R337, R339, R353, R354) and the
accesses that the window refuses (60_exceptions.md R388). -/

namespace Sys2Proof.Machine

/-- A write that has no effect (20_memory.md R87; 47_run_control.md R353). -/
def ignoreWrite (s : State) : Result :=
  .next (answerWrite s)

/-- A write of a configuration register (47_run_control.md R335, R337, R339). -/
def writeConfig (update : State → State) (s : State) : Result :=
  .next (answerWrite (configure update s))

/-- The effect of a write to CTRL: IE first, then START where DATA[0] is 1 and no run is in progress
(47_run_control.md R331, R360). -/
def writeCtrl (data : Word32) (s : State) : State :=
  let s1 := { s with ie := data.getLsbD 1 }
  if data.getLsbD 0 then (if s1.fsm = .busy then s1 else startRun s1) else s1

/-- WR32 CTRL (R331). -/
def execWr32Ctrl (data : Word32) (s : State) : Result := .next (answerWrite (writeCtrl data s))

/-- WR32 STATUS: ignored, no bit is write-1-to-clear (R334). -/
def execWr32Status (_data : Word32) (s : State) : Result := ignoreWrite s

/-- WR32 TIER: DATA[1:0], ignored while BUSY (R335). -/
def execWr32Tier (data : Word32) (s : State) : Result :=
  writeConfig (fun t => { t with tier := data.setWidth 2 }) s

/-- WR32 CHANNELS: DATA[15:0], ignored while BUSY (R337). -/
def execWr32Channels (data : Word32) (s : State) : Result :=
  writeConfig (fun t => { t with channels := data.setWidth 16 }) s

/-- WR32 OUT_PERIODS: DATA, ignored while BUSY (R339). -/
def execWr32OutPeriods (data : Word32) (s : State) : Result :=
  writeConfig (fun t => { t with outPeriods := data }) s

/-- WR32 SEED: ignored (R353). -/
def execWr32Seed (_data : Word32) (s : State) : Result := ignoreWrite s

/-- WR32 PREVIEW_COUNT: ignored (R353). -/
def execWr32PreviewCount (_data : Word32) (s : State) : Result := ignoreWrite s

/-- WR32 SAMPLE_INDEX_LO: ignored (R353). -/
def execWr32SampleIndexLo (_data : Word32) (s : State) : Result := ignoreWrite s

/-- WR32 SAMPLE_INDEX_HI: ignored (R353). -/
def execWr32SampleIndexHi (_data : Word32) (s : State) : Result := ignoreWrite s

/-- WR32 TOTAL_LO: ignored (R353). -/
def execWr32TotalLo (_data : Word32) (s : State) : Result := ignoreWrite s

/-- WR32 TOTAL_HI: ignored (R353). -/
def execWr32TotalHi (_data : Word32) (s : State) : Result := ignoreWrite s

/-- WR32 ENERGY_LO: ignored (R353). -/
def execWr32EnergyLo (_data : Word32) (s : State) : Result := ignoreWrite s

/-- WR32 ENERGY_HI: ignored (R353). -/
def execWr32EnergyHi (_data : Word32) (s : State) : Result := ignoreWrite s

/-- WR32 PREVIEW_LO[k]: ignored (R353). -/
def execWr32PreviewLo (_k : BitVec 10) (_data : Word32) (s : State) : Result := ignoreWrite s

/-- WR32 PREVIEW_HI[k]: ignored (R353). -/
def execWr32PreviewHi (_k : BitVec 10) (_data : Word32) (s : State) : Result := ignoreWrite s

/-- WR32 at a reserved offset: ignored, no error (R354). -/
def execWr32Reserved (_off : BitVec 14) (_data : Word32) (s : State) : Result := ignoreWrite s

/-- A 32-bit access at an offset that is no multiple of 4 (60_exceptions.md R388). -/
def execBusErrMisaligned (off : BitVec 14) (payload : Payload) (s : State) : Result :=
  .next (answerBusError off .w32 payload.dir s)

/-- An access of 8, 16 or 64 bits (60_exceptions.md R388). -/
def execBusErrWidth (width : OddWidth) (off : BitVec 14) (dir : BusDir) (s : State) : Result :=
  .next (answerBusError off width.busWidth dir s)

end Sys2Proof.Machine
end

