-- ==== Sys2Proof/Machine/Accumulator.lean ====
section
/-! DEFINITION. The energy accumulator and the preview tap: ENERGY_ACC and PREVIEW_CAP
(45_accumulator.md R260 to R265). -/

namespace Sys2Proof.Machine

/-- `fl( ENERGY + fl(s * s) )` (45_accumulator.md R260). -/
def addSquare (energy sample : F64) : F64 :=
  fadd energy (fmul sample sample)

/-- The stage ENERGY_ACC: output samples only (45_accumulator.md R260, R261). -/
def energyStage (s : State) : State :=
  if isOutputSample s then { s with energy := addSquare s.energy s.wires.s } else s

/-- Whether PREVIEW_CAP writes an entry for this sample (45_accumulator.md R263). -/
def capturesPreview (s : State) : Bool :=
  isOutputSample s && isCaptureIndex (outputIndex s) (strideOf s) &&
    decide (s.previewCount.toNat < previewLength)

/-- The stage PREVIEW_CAP: the limited sample, bit for bit, into `PREVIEW[PREVIEW_COUNT]`
(45_accumulator.md R263). -/
def previewStage (s : State) : State :=
  if capturesPreview s then
    { s with
      preview := s.preview.setIfInBounds s.previewCount.toNat s.wires.s
      previewCount := s.previewCount + 1#11 }
  else s

/-- ENERGY_ACC, core operation 8 (R260). -/
def execEnergyAcc (s : State) : Result := .next (energyStage s)

/-- PREVIEW_CAP, core operation 9 (R263). -/
def execPreviewCap (s : State) : Result := .next (previewStage s)

end Sys2Proof.Machine
end

