-- ==== Sys2Proof/Machine/Biquad.lean ====
section
/-! DEFINITION. The band-limiting cascade: BQ_SECTION and its four instances (43_biquad.md R210 to R222). -/

namespace Sys2Proof.Machine

/-- `w <- fl( fl( x - fl(a1 * w1) ) - fl(a2 * w2) )` (43_biquad.md R212). -/
def sectionState (c : BqCoeffs) (d : DelayLine) (x : F64) : F64 :=
  fsub (fsub x (fmul c.a1 d.w1)) (fmul c.a2 d.w2)

/-- `out <- fl( fl( fl(b0 * w) + fl(b1 * w1) ) + fl(b2 * w2) )`, with the old w1 and w2
(43_biquad.md R212). -/
def sectionOutput (c : BqCoeffs) (d : DelayLine) (w : F64) : F64 :=
  fadd (fadd (fmul c.b0 w) (fmul c.b1 d.w1)) (fmul c.b2 d.w2)

/-- `(w1, w2) <- (w, w1)` (43_biquad.md R212). -/
def shiftDelay (d : DelayLine) (w : F64) : DelayLine where
  w1 := w
  w2 := d.w1

/-- The stage BQ_SECTION of section `sec`: it reads the wire before it, its own delay line and
`BQ[TIER][sec]`, and writes its delay line and its output wire (43_biquad.md R212 to R217). -/
def sectionStage (sec : BqSection) (s : State) : State :=
  let c := runCoeffs s sec
  let d := delayLine s.bq sec
  let w := sectionState c d (sectionInput s.wires sec)
  { s with
    bq := setDelayLine s.bq (shiftDelay d w) sec
    wires := setSectionOutput s.wires (sectionOutput c d w) sec }

/-- BQ_HP1, core operation 3 (R213). -/
def execBqHp1 (s : State) : Result := .next (sectionStage .hp1 s)

/-- BQ_HP2, core operation 4 (R214). -/
def execBqHp2 (s : State) : Result := .next (sectionStage .hp2 s)

/-- BQ_LP1, core operation 5 (R215). -/
def execBqLp1 (s : State) : Result := .next (sectionStage .lp1 s)

/-- BQ_LP2, core operation 6 (R216). -/
def execBqLp2 (s : State) : Result := .next (sectionStage .lp2 s)

end Sys2Proof.Machine
end

