-- ==== Sys2Proof/Machine/Limiter.lean ====
section
/-! DEFINITION. The peak limiter: LIMIT (44_limiter.md R240 to R246). -/

namespace Sys2Proof.Machine

/-- The clip of a finite sample to ±L; a value at the ceiling passes (44_limiter.md R240, R241). -/
def clipSample (y : F64) : F64 :=
  if flt ceilingL y then ceilingL
  else if flt y negCeilingL then negCeilingL
  else y

/-- The stage LIMIT: `NonFinite(SAMPLE_INDEX)` on a NaN or an infinity, else the clip (44_limiter.md R240,
R243; 60_exceptions.md R389). -/
def limitStage (s : State) : Result :=
  if isNaN s.wires.y || isInf s.wires.y then .fault (.nonFinite s.sampleIndex)
  else .next { s with wires := { s.wires with s := clipSample s.wires.y } }

/-- LIMIT, core operation 7 (R240). -/
def execLimit (s : State) : Result := limitStage s

end Sys2Proof.Machine
end

