-- ==== Sys2Proof/Machine/Pcm.lean ====
section
/-! DEFINITION. The PCM sample formatter: PCM_CONV and PCM_EMIT (46_pcm_formatter.md R290 to R295;
30_encoding.md R126, R127). -/

namespace Sys2Proof.Machine

/-- `n <- clamp( trunc(fl(s * 2147483647.0)), -2^31, 2^31 - 1 )` as 32-bit two's complement
(46_pcm_formatter.md R290); free for a NaN or an infinity (log 10). A finite sample whose product
overflows saturates, since the infinity lies beyond both bounds. -/
def pcmOfSample (sample : F64) : Word32 :=
  if isFinite sample then
    BitVec.ofInt 32 (clampInt (truncToInt (fmul sample pcmScale)) (-2 ^ 31) (2 ^ 31 - 1))
  else Config.pcmOfNonFinite sample

/-- The stage PCM_CONV: output samples only (46_pcm_formatter.md R290). -/
def pcmConvStage (s : State) : State :=
  if isOutputSample s then { s with wires := { s.wires with n := pcmOfSample s.wires.s } } else s

/-- The three bytes of a 24-bit sample in emission order: `n[15:8]`, `n[23:16]`, `n[31:24]`
(30_encoding.md R126). -/
def sampleBytes (n : Word32) : List Byte :=
  [n.extractLsb' 8 8, n.extractLsb' 16 8, n.extractLsb' 24 8]

/-- The frame of an output sample: the same three bytes for every channel (30_encoding.md R126;
46_pcm_formatter.md R292). -/
def frameBytes (n : Word32) (channels : Nat) : List Byte :=
  (List.replicate channels (sampleBytes n)).flatten

/-- The stage PCM_EMIT: output samples only (46_pcm_formatter.md R291). -/
def pcmEmitStage (s : State) : State :=
  if isOutputSample s then emitBytes (frameBytes s.wires.n s.channels.toNat) s else s

/-- PCM_CONV, core operation 10 (R290). -/
def execPcmConv (s : State) : Result := .next (pcmConvStage s)

/-- PCM_EMIT, core operation 11 (R291). -/
def execPcmEmit (s : State) : Result := .next (pcmEmitStage s)

end Sys2Proof.Machine
end

