-- ==== Sys2Proof/Machine/Pink.lean ====
section
/-! DEFINITION. The pink shaping network: PINK_STEP (42_pink.md R190 to R197). -/

namespace Sys2Proof.Machine

/-- `b[i] <- fl( pa[i] * b[i] + x * pg[i] )` for i below NP (42_pink.md R191); the places from NP on are
not registers and keep their value (log 8). -/
def pinkRegisters (k : PinkConsts) (b : Vector F64 6) (x : F64) : Vector F64 6 :=
  Vector.ofFn fun i : Fin 6 =>
    if i.val < k.np.val then fadd (fmul k.pa[i] b[i]) (fmul x k.pg[i]) else b[i]

/-- The sum of the updated registers in index order, from `b[0]` (42_pink.md R191, R192). -/
def pinkSum (k : PinkConsts) (b : Vector F64 6) : F64 :=
  ((b.toList.take k.np.val).tail).foldl fadd b[0]

/-- The pink sample: the sum, then the old delayed tap, then the direct tap, then the output gain
(42_pink.md R191). -/
def pinkSample (k : PinkConsts) (b : Vector F64 6) (z x : F64) : F64 :=
  fmul (fadd (fadd (pinkSum k b) z) (fmul x k.pd)) k.pgain

/-- `z <- fl( x * pe )`, the delayed tap of the next sample (42_pink.md R191). -/
def pinkDelay (k : PinkConsts) (x : F64) : F64 :=
  fmul x k.pe

/-- The stage PINK_STEP: the sum reads the updated registers and the old `z`. -/
def pinkStage (s : State) : State :=
  let b' := pinkRegisters s.consts.pink s.b s.wires.x
  { s with
    b := b'
    z := pinkDelay s.consts.pink s.wires.x
    wires := { s.wires with p := pinkSample s.consts.pink b' s.z s.wires.x } }

/-- PINK_STEP, core operation 2 (R191). -/
def execPinkStep (s : State) : Result := .next (pinkStage s)

end Sys2Proof.Machine
end

