-- ==== Sys2Proof/Machine/Prng.lean ====
section
/-! DEFINITION. The noise source: PRNG_STEP and PRNG_MAP (41_prng.md R170 to R178). -/

namespace Sys2Proof.Machine

/-- `prod <- A * SEED + S; SEED <- prod AND (P - 1)`, exact integers (41_prng.md R170). -/
def nextSeed (c : TierConsts) (seed : BitVec 20) : BitVec 20 :=
  BitVec.ofNat 20 ((lcgMultiplier * seed.toNat + c.increment) &&& (c.period - 1))

/-- `x <- fl( fl(SEED * C_MAP) - 1.0 )`, SEED converted exactly (41_prng.md R171, R178). -/
def whiteSample (c : TierConsts) (seed : BitVec 20) : F64 :=
  fsub (fmul (ofNatF seed.toNat) c.cmap) oneF

/-- The stage PRNG_STEP. -/
def prngStepStage (s : State) : State :=
  { s with seed := nextSeed (runConsts s) s.seed }

/-- The stage PRNG_MAP. -/
def prngMapStage (s : State) : State :=
  { s with wires := { s.wires with x := whiteSample (runConsts s) s.seed } }

/-- PRNG_STEP, core operation 0 (R170). -/
def execPrngStep (s : State) : Result := .next (prngStepStage s)

/-- PRNG_MAP, core operation 1 (R171). -/
def execPrngMap (s : State) : Result := .next (prngMapStage s)

end Sys2Proof.Machine
end

