-- ==== Sys2Proof/Machine/RunControl.lean ====
section
/-! DEFINITION. The composite steps of the core, SAMPLE_STEP and RUN_END, and the two reserved operation ids
(47_run_control.md R355 to R358; 30_encoding.md R125). -/

namespace Sys2Proof.Machine

/-- The stages up to the band-limited sample: PRNG_STEP, PRNG_MAP, PINK_STEP, BQ_HP1, BQ_HP2, BQ_LP1, BQ_LP2
(47_run_control.md R355; 43_biquad.md R210). -/
def generateStages (s : State) : State :=
  sectionStage .lp2 (sectionStage .lp1 (sectionStage .hp2 (sectionStage .hp1
    (pinkStage (prngMapStage (prngStepStage s))))))

/-- The stages of an output sample: ENERGY_ACC, PREVIEW_CAP, PCM_CONV, PCM_EMIT (47_run_control.md R355). -/
def outputStages (s : State) : State :=
  pcmEmitStage (pcmConvStage (previewStage (energyStage s)))

/-- The end of a sample step: SAMPLE_INDEX <- i + 1, and RUN_END where i + 1 = TOTAL (47_run_control.md
R355). The pipeline values end with the step (log 5). -/
def advanceSample (s : State) : State :=
  let s1 := { s with sampleIndex := nextIndex s.sampleIndex, wires := Wires.idle }
  if s.sampleIndex.toNat + 1 = s.total.toNat then endRun s1 else s1

/-- The step after LIMIT: the output stages for an output sample, then the advance (47_run_control.md R355,
R356). -/
def finishSample (s : State) : State :=
  advanceSample (if isOutputSample s then outputStages s else s)

/-- One sample step, enabled only while fsm = BUSY; elsewhere the core has no step and nothing changes
(47_run_control.md R355, R358). -/
def sampleStepOp (s : State) : Result :=
  if s.fsm = .busy then
    match limitStage (generateStages s) with
    | .next t => .next (finishSample t)
    | .fault f => .fault f
    | .refused r => .refused r
  else .next s

/-- SAMPLE_STEP, core operation 12 (R355). -/
def execSampleStep (s : State) : Result := sampleStepOp s

/-- RUN_END, core operation 13 (R357). -/
def execRunEnd (s : State) : Result := .next (endRun s)

/-- Core operation id 14: reserved, never performed (30_encoding.md R125). -/
def execReservedCoreOp14 (_s : State) : Result := .refused (.reservedCoreOp 14#4)

/-- Core operation id 15: reserved, never performed (30_encoding.md R125). -/
def execReservedCoreOp15 (_s : State) : Result := .refused (.reservedCoreOp 15#4)

end Sys2Proof.Machine
end

