-- ==== Sys2Proof/Machine/Dispatch.lean ====
section
/-! DEFINITION. The dispatch of an instruction to its meaning, one arm per constructor of Instr. -/

namespace Sys2Proof.Machine

def exec (i : Instr) (s : State) : Host.Outcome State Fault Refusal :=
  match i with
  | .rd32Ctrl => Sys2Proof.Machine.execRd32Ctrl s
  | .wr32Ctrl data => Sys2Proof.Machine.execWr32Ctrl data s
  | .rd32Status => Sys2Proof.Machine.execRd32Status s
  | .wr32Status data => Sys2Proof.Machine.execWr32Status data s
  | .rd32Tier => Sys2Proof.Machine.execRd32Tier s
  | .wr32Tier data => Sys2Proof.Machine.execWr32Tier data s
  | .rd32Channels => Sys2Proof.Machine.execRd32Channels s
  | .wr32Channels data => Sys2Proof.Machine.execWr32Channels data s
  | .rd32OutPeriods => Sys2Proof.Machine.execRd32OutPeriods s
  | .wr32OutPeriods data => Sys2Proof.Machine.execWr32OutPeriods data s
  | .rd32Seed => Sys2Proof.Machine.execRd32Seed s
  | .wr32Seed data => Sys2Proof.Machine.execWr32Seed data s
  | .rd32PreviewCount => Sys2Proof.Machine.execRd32PreviewCount s
  | .wr32PreviewCount data => Sys2Proof.Machine.execWr32PreviewCount data s
  | .rd32SampleIndexLo => Sys2Proof.Machine.execRd32SampleIndexLo s
  | .wr32SampleIndexLo data => Sys2Proof.Machine.execWr32SampleIndexLo data s
  | .rd32SampleIndexHi => Sys2Proof.Machine.execRd32SampleIndexHi s
  | .wr32SampleIndexHi data => Sys2Proof.Machine.execWr32SampleIndexHi data s
  | .rd32TotalLo => Sys2Proof.Machine.execRd32TotalLo s
  | .wr32TotalLo data => Sys2Proof.Machine.execWr32TotalLo data s
  | .rd32TotalHi => Sys2Proof.Machine.execRd32TotalHi s
  | .wr32TotalHi data => Sys2Proof.Machine.execWr32TotalHi data s
  | .rd32EnergyLo => Sys2Proof.Machine.execRd32EnergyLo s
  | .wr32EnergyLo data => Sys2Proof.Machine.execWr32EnergyLo data s
  | .rd32EnergyHi => Sys2Proof.Machine.execRd32EnergyHi s
  | .wr32EnergyHi data => Sys2Proof.Machine.execWr32EnergyHi data s
  | .rd32PreviewLo k => Sys2Proof.Machine.execRd32PreviewLo k s
  | .rd32PreviewHi k => Sys2Proof.Machine.execRd32PreviewHi k s
  | .wr32PreviewLo k data => Sys2Proof.Machine.execWr32PreviewLo k data s
  | .wr32PreviewHi k data => Sys2Proof.Machine.execWr32PreviewHi k data s
  | .rd32Reserved off => Sys2Proof.Machine.execRd32Reserved off s
  | .wr32Reserved off data => Sys2Proof.Machine.execWr32Reserved off data s
  | .busErrMisaligned off payload => Sys2Proof.Machine.execBusErrMisaligned off payload s
  | .busErrWidth width off dir => Sys2Proof.Machine.execBusErrWidth width off dir s
  | .prngStep => Sys2Proof.Machine.execPrngStep s
  | .prngMap => Sys2Proof.Machine.execPrngMap s
  | .pinkStep => Sys2Proof.Machine.execPinkStep s
  | .bqHp1 => Sys2Proof.Machine.execBqHp1 s
  | .bqHp2 => Sys2Proof.Machine.execBqHp2 s
  | .bqLp1 => Sys2Proof.Machine.execBqLp1 s
  | .bqLp2 => Sys2Proof.Machine.execBqLp2 s
  | .limit => Sys2Proof.Machine.execLimit s
  | .energyAcc => Sys2Proof.Machine.execEnergyAcc s
  | .previewCap => Sys2Proof.Machine.execPreviewCap s
  | .pcmConv => Sys2Proof.Machine.execPcmConv s
  | .pcmEmit => Sys2Proof.Machine.execPcmEmit s
  | .sampleStep => Sys2Proof.Machine.execSampleStep s
  | .runEnd => Sys2Proof.Machine.execRunEnd s
  | .reservedCoreOp14 => Sys2Proof.Machine.execReservedCoreOp14 s
  | .reservedCoreOp15 => Sys2Proof.Machine.execReservedCoreOp15 s

end Sys2Proof.Machine
end

