-- ==== Sys2Proof/Machine/Step.lean ====
section
/-! DEFINITION. One step of the machine: the next slot of the schedule is a hardware reset, or the meaning of
the instruction that its packet decodes to (47_run_control.md R330). -/

namespace Sys2Proof.Machine

/-- One step: a raised reset line wins over the slot's packet (60_exceptions.md R394;
70_reset_and_hazards.md R420); else the packet's instruction is performed, SAMPLE_STEP where neither the
platform nor the host acts (logs 1 to 3). -/
def step (s : State) : Host.Outcome State Fault Refusal :=
  if (nextSlot s).hwReset then .next (hardwareReset (takeSlot s))
  else
    match decode (fetchPacket s) with
    | .ok i => exec i (takeSlot s)
    | .error e => .refused (.undecodable e)

/-- The state with the instruction whose bits are `w` in the slot that the next step takes (log 1). -/
def State.withFetchWord (s : State) (nbits w : Nat) : State :=
  schedulePacket (packetOfBits nbits w) s

end Sys2Proof.Machine
end

