-- ==== Sys2Proof/Machine/HostSide.lean ====
section
/-! DEFINITION. The rules marked [host]: what the software around PNG-CORE computes, so that the whole output can
be modelled (00_scope.md R8, R21): the length derivation (47_run_control.md R361), the container header
(30_encoding.md R128; 46_pcm_formatter.md R296 to R300), the level (45_accumulator.md R266, R267), the
pseudo-instructions and the assembly names (30_encoding.md R130, R131), progress (47_run_control.md R363). No
State field implements them. -/

namespace Sys2Proof.Machine

/-- How the host turns a request down (47_run_control.md R361; 60_exceptions.md R382, R385). -/
inductive HostError where
  | invalidConfiguration
  | resourceExhaustion
deriving DecidableEq, Repr

/-- What the host writes to the configuration registers for a request (47_run_control.md R361). -/
structure RunPlan where
  tier : BitVec 2
  outPeriods : BitVec 32
deriving DecidableEq, Repr

/-- The sample rate of a tier; the reserved values have none (00_scope.md R15). -/
def tierRate (tier : BitVec 2) : Option Nat :=
  if tier = 0#2 then some 48000 else if tier = 1#2 then some 96000 else none

/-- The tier of a sample rate (47_run_control.md R361). -/
def tierOfRate (rate : Nat) : Option (BitVec 2) :=
  if rate = 48000 then some 0#2 else if rate = 96000 then some 1#2 else none

/-- `ceil` of a finite positive value (00_scope.md R20). -/
def ceilToNat (v : F64) : Nat :=
  (magnitude v + (unitScale - 1)) / unitScale

/-- `fl(q / P)` with `q <- fl( fl(d * r) + P )` (47_run_control.md R361). -/
def requestedPeriods (rate : Nat) (duration : F64) (period : Nat) : F64 :=
  fdiv (fadd (fmul duration (ofNatF rate)) (ofNatF period)) (ofNatF period)

/-- The host's length derivation: OUT_PERIODS = ceil(fl(q / P)) - 1, in 1 .. 2^32 - 1 (47_run_control.md
R361). A quotient that is no finite number names no such integer (log 19). The header's limits are checked
after it, by `requestRun`. -/
def planRun (rate : Nat) (duration : F64) (channels : Nat) : Except HostError RunPlan :=
  match tierOfRate rate with
  | none => .error .invalidConfiguration
  | some tier =>
    if !flt posZero duration || channels < 1 then .error .invalidConfiguration
    else
      let k := requestedPeriods rate duration (tierConsts tier).period
      if isFinite k && decide (1 ≤ ceilToNat k - 1) && decide (ceilToNat k - 1 < 2 ^ 32) then
        .ok { tier := tier, outPeriods := BitVec.ofNat 32 (ceilToNat k - 1) }
      else .error .resourceExhaustion

/-- An unsigned little-endian field of `n` bytes (30_encoding.md R128). -/
def leBytes (n v : Nat) : List Byte :=
  (List.range n).map fun i => BitVec.ofNat 8 (v >>> (8 * i))

/-- The number that an unsigned little-endian field holds (30_encoding.md R128). -/
def leValue : List Byte → Nat
  | [] => 0
  | b :: rest => b.toNat + 256 * leValue rest

/-- The value of the field of `n` bytes at an offset of a header (30_encoding.md R128). -/
def headerField (bytes : List Byte) (off n : Nat) : Nat :=
  leValue ((bytes.drop off).take n)

/-- D, the data size of a run (46_pcm_formatter.md R298). -/
def dataSize (channels nout : Nat) : Nat :=
  3 * channels * nout

/-- The 44-byte header at the offsets of 30_encoding.md R128, with the values of 46_pcm_formatter.md R296 to
R298. -/
def headerBytes (rate channels nout : Nat) : List Byte :=
  [0x52#8, 0x49#8, 0x46#8, 0x46#8] ++ leBytes 4 (36 + dataSize channels nout) ++
  [0x57#8, 0x41#8, 0x56#8, 0x45#8] ++
  [0x66#8, 0x6D#8, 0x74#8, 0x20#8] ++ leBytes 4 16 ++ leBytes 2 1 ++ leBytes 2 channels ++
  leBytes 4 rate ++ leBytes 4 (rate * channels * 3) ++ leBytes 2 (channels * 3) ++ leBytes 2 24 ++
  [0x64#8, 0x61#8, 0x74#8, 0x61#8] ++ leBytes 4 (dataSize channels nout)

/-- The limits of the header's fields, which the host checks before START (46_pcm_formatter.md R300). -/
def headerFits (rate channels nout : Nat) : Bool :=
  decide (3 * channels ≤ 65535) && decide (rate * 3 * channels ≤ 2 ^ 32 - 1) &&
    decide (36 + dataSize channels nout ≤ 2 ^ 32 - 1)

/-- NOUT of a planned run: OUT_PERIODS * P (10_state.md R39). -/
def RunPlan.nout (plan : RunPlan) : Nat :=
  plan.outPeriods.toNat * (tierConsts plan.tier).period

/-- What the host does with a request before START: it derives the length, and rejects as ResourceExhaustion a
configuration that breaks a limit of the header's fields (46_pcm_formatter.md R300; 47_run_control.md R361;
60_exceptions.md R385). -/
def requestRun (rate : Nat) (duration : F64) (channels : Nat) : Except HostError RunPlan :=
  match planRun rate duration channels with
  | .ok plan => if headerFits rate channels plan.nout then .ok plan else .error .resourceExhaustion
  | .error e => .error e

/-- The file: the header, then PCM_OUT (46_pcm_formatter.md R299). -/
def containerFile (rate channels nout : Nat) (pcm : List Byte) : List Byte :=
  headerBytes rate channels nout ++ pcm

/-- The level of a run as a relation, since the host's log10 is its own: 10 log10(ENERGY / NOUT) + 3.01 within
1e-6 relative, and minus infinity for zero energy (45_accumulator.md R266, R267; 93 U4). -/
def IsReportedLevel (energy : F64) (nout : Nat) (level : EReal) : Prop :=
  if isZero energy then level = ⊥
  else ∃ x : ℝ, level = (x : EReal) ∧
    |x - (10 * Real.logb 10 ((ratOf energy : ℝ) / (nout : ℝ)) + 3.01)| ≤
      1e-6 * |10 * Real.logb 10 ((ratOf energy : ℝ) / (nout : ℝ)) + 3.01|

/-- A progress value that the host may report: any value in [0, 1) (47_run_control.md R363; 93 U1). -/
def IsProgress (r : Rat) : Prop :=
  0 ≤ r ∧ r < 1

/-- The pseudo-instruction START (30_encoding.md R131). -/
def startAccesses : List Instr :=
  [.wr32Ctrl 0x1#32]

/-- The pseudo-instruction START_IE (30_encoding.md R131). -/
def startIeAccesses : List Instr :=
  [.wr32Ctrl 0x3#32]

/-- The pseudo-instruction CONFIG t, c, n (30_encoding.md R131). -/
def configAccesses (t c n : Word32) : List Instr :=
  [.wr32Tier t, .wr32Channels c, .wr32OutPeriods n]

/-- Instructions performed one after the other, to the first stop. -/
def runInstrs : List Instr → State → Result
  | [], s => .next s
  | i :: rest, s =>
    match exec i s with
    | .next t => runInstrs rest t
    | .fault f => .fault f
    | .refused r => .refused r

/-- Host accesses that begin after `turns` sample steps of the core (47_run_control.md R359). -/
def afterTurns (turns : Nat) (accesses : List Instr) : List Instr :=
  List.replicate turns .sampleStep ++ accesses

/-- RDATA of the last host access, where that was a read (30_encoding.md R110). -/
def readData (s : State) : Option Word32 :=
  match s.answer with
  | .rdata v => some v
  | .none => none
  | .written => none
  | .busError _ _ _ => none

/-- The condition that ends the pseudo-instruction WAIT, on the RDATA of STATUS (30_encoding.md R131). -/
def waitEnds (rdata : Word32) : Bool :=
  (rdata &&& 0x6#32) != 0#32

/-- The pseudo-instruction WAIT: RD32 STATUS repeated until its RDATA shows DONE or ERR. Before each read the core
takes as many sample steps as the list says; `none` where the list ends and WAIT goes on
(30_encoding.md R131; 47_run_control.md R359). -/
def waitRun : List Nat → State → Option Result
  | [], _ => none
  | turns :: rest, s =>
    match runInstrs (afterTurns turns [.rd32Status]) s with
    | .next t => if (readData t).any waitEnds then some (.next t) else waitRun rest t
    | .fault f => some (.fault f)
    | .refused r => some (.refused r)

/-- The registers of 64 bits, each a pair X_LO, X_HI of the window (20_memory.md R85). -/
inductive WideReg where
  | sampleIndex
  | total
  | energy
  | preview (k : BitVec 10)
deriving DecidableEq, Repr

/-- X_LO. -/
def WideReg.lo : WideReg → Reg
  | .sampleIndex => .sampleIndexLo
  | .total => .totalLo
  | .energy => .energyLo
  | .preview k => .previewLo k

/-- X_HI. -/
def WideReg.hi : WideReg → Reg
  | .sampleIndex => .sampleIndexHi
  | .total => .totalHi
  | .energy => .energyHi
  | .preview k => .previewHi k

/-- The 64-bit value that a pair of registers shows (20_memory.md R85). -/
def wideValue (s : State) : WideReg → BitVec 64
  | .sampleIndex => s.sampleIndex
  | .total => s.total
  | .energy => s.energy
  | .preview k => previewEntry s k.toNat

/-- The accesses of the pseudo-instruction RD64 X: RD32 X_LO, then RD32 X_HI (30_encoding.md R131). -/
def rd64Accesses (x : WideReg) : List Instr :=
  [readInstr x.lo, readInstr x.hi]

/-- The result of the pseudo-instruction RD64: the HI and LO reads together (30_encoding.md R131). -/
def joinHalves (hi lo : Word32) : BitVec 64 :=
  hi ++ lo

/-- The pseudo-instruction RD64 X with `turns` sample steps of the core between its two reads: its result and the
state after it; `none` where the core stops between them. With a sample step between them the result may tear
(30_encoding.md R131; 20_memory.md R86; 70_reset_and_hazards.md R428). -/
def rd64Run (x : WideReg) (turns : Nat) (s : State) : Option (BitVec 64 × State) :=
  match runInstrs [readInstr x.lo] s with
  | .next s1 =>
    match runInstrs (afterTurns turns [readInstr x.hi]) s1 with
    | .next s2 =>
      match readData s2, readData s1 with
      | some hi, some lo => some (joinHalves hi lo, s2)
      | _, _ => none
    | .fault _ => none
    | .refused _ => none
  | .fault _ => none
  | .refused _ => none

/-- The pseudo-instruction DRAIN n: the next n bytes of PCM_OUT, for a host that has taken `taken` of them;
it changes no state of PNG-CORE (30_encoding.md R131; log 20). DESIGN CHOICE (log 22): where fewer than n
untaken bytes stand in PCM_OUT it gives those that do. -/
def drainBytes (taken n : Nat) (s : State) : List Byte :=
  (s.pcmOut.drop taken).take n

/-- A register's name in host programs; a reserved offset goes by its number (30_encoding.md R130). -/
def regName : Reg → String
  | .ctrl => "CTRL"
  | .status => "STATUS"
  | .tier => "TIER"
  | .channels => "CHANNELS"
  | .outPeriods => "OUT_PERIODS"
  | .seed => "SEED"
  | .previewCount => "PREVIEW_COUNT"
  | .sampleIndexLo => "SAMPLE_INDEX_LO"
  | .sampleIndexHi => "SAMPLE_INDEX_HI"
  | .totalLo => "TOTAL_LO"
  | .totalHi => "TOTAL_HI"
  | .energyLo => "ENERGY_LO"
  | .energyHi => "ENERGY_HI"
  | .previewLo k => "PREVIEW_LO[" ++ toString k.toNat ++ "]"
  | .previewHi k => "PREVIEW_HI[" ++ toString k.toNat ++ "]"
  | .reserved off => toString off.toNat

/-- The line of a host program that reads a register (30_encoding.md R130). -/
def readLine (r : Reg) : String :=
  "RD32 " ++ regName r

/-- The line of a host program that writes a register (30_encoding.md R130). -/
def writeLine (r : Reg) (data : Word32) : String :=
  "WR32 " ++ regName r ++ ", " ++ toString data.toNat

/-- The platform's address of a register: REG_BASE plus its offset (20_memory.md R81; log 18). -/
def platformAddress (r : Reg) : Nat :=
  Config.regBase + r.offset.toNat

end Sys2Proof.Machine
end

