-- ==== Sys2Proof/Safety.lean ====
section
/-! DEFINITION. What counts as a good state and a good run of PNG-CORE, in the terms the statements use: the
invariants of 10_state.md R56, the schedules that hold nothing but the steps of 47_run_control.md R330, the
premises on the parameters, and the observation of a run (47_run_control.md R364). -/

namespace Sys2Proof.Machine

/-- The instructions that are steps of the machine: every host access and SAMPLE_STEP. A single stage, RUN_END
on its own and the reserved ids are not (47_run_control.md R330; 30_encoding.md R125; log 6). -/
def isMachineStep : Instr → Bool
  | .rd32Ctrl => true
  | .wr32Ctrl _ => true
  | .rd32Status => true
  | .wr32Status _ => true
  | .rd32Tier => true
  | .wr32Tier _ => true
  | .rd32Channels => true
  | .wr32Channels _ => true
  | .rd32OutPeriods => true
  | .wr32OutPeriods _ => true
  | .rd32Seed => true
  | .wr32Seed _ => true
  | .rd32PreviewCount => true
  | .wr32PreviewCount _ => true
  | .rd32SampleIndexLo => true
  | .wr32SampleIndexLo _ => true
  | .rd32SampleIndexHi => true
  | .wr32SampleIndexHi _ => true
  | .rd32TotalLo => true
  | .wr32TotalLo _ => true
  | .rd32TotalHi => true
  | .wr32TotalHi _ => true
  | .rd32EnergyLo => true
  | .wr32EnergyLo _ => true
  | .rd32EnergyHi => true
  | .wr32EnergyHi _ => true
  | .rd32PreviewLo _ => true
  | .rd32PreviewHi _ => true
  | .wr32PreviewLo _ _ => true
  | .wr32PreviewHi _ _ => true
  | .rd32Reserved _ => true
  | .wr32Reserved _ _ => true
  | .busErrMisaligned _ _ => true
  | .busErrWidth _ _ _ => true
  | .prngStep => false
  | .prngMap => false
  | .pinkStep => false
  | .bqHp1 => false
  | .bqHp2 => false
  | .bqLp1 => false
  | .bqLp2 => false
  | .limit => false
  | .energyAcc => false
  | .previewCap => false
  | .pcmConv => false
  | .pcmEmit => false
  | .sampleStep => true
  | .runEnd => false
  | .reservedCoreOp14 => false
  | .reservedCoreOp15 => false

/-- The host accesses among the instructions (10_state.md R30). -/
def isHostAccess (i : Instr) : Bool :=
  isMachineStep i && !decide (i = .sampleStep)

/-- A packet that decodes to a step of the machine. -/
def isStepPacket (p : Packet) : Bool :=
  match decode p with
  | .ok i => isMachineStep i
  | .error _ => false

/-- A slot that holds a step of the machine: a hardware reset, the core's turn, or a step packet. -/
def isStepSlot (slot : Slot) : Bool :=
  slot.hwReset || (slot.packet.map isStepPacket).getD true

/-- The schedule holds nothing but steps of 47_run_control.md R330. -/
def StepsOnly (s : State) : Prop :=
  ∀ slot ∈ s.agenda, isStepSlot slot = true

/-- The premise on PINK: NP is 5 or 6, every constant in use is finite, and |pa[i]| < 1 (42_pink.md R190). -/
def PinkConforms (k : PinkConsts) : Prop :=
  (k.np.val = 5 ∨ k.np.val = 6) ∧
    (∀ i : Fin 6, i.val < k.np.val →
      isFinite k.pa[i] = true ∧ isFinite k.pg[i] = true ∧ |ratOf k.pa[i]| < 1) ∧
    isFinite k.pd = true ∧ isFinite k.pe = true ∧ isFinite k.pgain = true

/-- The premise on one section: finite coefficients and poles inside the unit circle (43_biquad.md R222). -/
def CoeffsConform (c : BqCoeffs) : Prop :=
  isFinite c.b0 = true ∧ isFinite c.b1 = true ∧ isFinite c.b2 = true ∧ isFinite c.a1 = true ∧
    isFinite c.a2 = true ∧ |ratOf c.a2| < 1 ∧ |ratOf c.a1| < 1 + ratOf c.a2

/-- The premises on the whole constant store (42_pink.md R190; 43_biquad.md R222). -/
def StoreConforms (k : ConstStore) : Prop :=
  PinkConforms k.pink ∧
    (∀ sec, CoeffsConform (sectionCoeffs k.bqTier0 sec)) ∧
      ∀ sec, CoeffsConform (sectionCoeffs k.bqTier1 sec)

/-- TIER is one of the two tiers (00_scope.md R15). -/
def TierValid (tier : BitVec 2) : Prop :=
  tier = 0#2 ∨ tier = 1#2

/-- A configuration that START accepts (47_run_control.md R341). -/
def ConfigValid (s : State) : Prop :=
  TierValid s.tier ∧ s.channels ≠ 0#16 ∧ s.outPeriods ≠ 0#32

/-- The number of output samples generated so far: max(0, SAMPLE_INDEX - P) (10_state.md R56). -/
def outputsSoFar (s : State) : Nat :=
  s.sampleIndex.toNat - periodOf s

/-- R56 for a run in progress: a valid configuration, TOTAL as START set it, SAMPLE_INDEX < TOTAL, SEED < P,
the length of PCM_OUT, and the number of preview entries that the stride gives. -/
structure BusyInv (s : State) : Prop where
  config : ConfigValid s
  total : s.total.toNat = (s.outPeriods.toNat + 1) * periodOf s
  index : s.sampleIndex.toNat < s.total.toNat
  seed : s.seed.toNat < periodOf s
  stream : s.pcmOut.length = 3 * s.channels.toNat * outputsSoFar s
  entries : s.previewCount.toNat =
    min previewLength ((outputsSoFar s + (strideOf s - 1)) / strideOf s)

/-- R56 for a completed run: SAMPLE_INDEX = TOTAL, PREVIEW_COUNT = 1000 and the length of PCM_OUT, for the
configuration (tier, channels, periods) the run was started with; the host may have rewritten the
configuration registers since (log 16). -/
structure DoneInv (s : State) : Prop where
  index : s.sampleIndex = s.total
  entries : s.previewCount.toNat = previewLength
  stream : ∃ tier : BitVec 2, ∃ channels periods : Nat, TierValid tier ∧ 1 ≤ channels ∧ 1 ≤ periods ∧
    s.total.toNat = (periods + 1) * (tierConsts tier).period ∧
    s.pcmOut.length = 3 * channels * (periods * (tierConsts tier).period)

/-- The invariant of 10_state.md R56, over schedules of machine steps. -/
structure MachineInv (s : State) : Prop where
  steps : StepsOnly s
  previews : s.previewCount.toNat ≤ previewLength
  busy : s.fsm = .busy → BusyInv s
  done : s.fsm = .done → DoneInv s

/-- The seed of a run in progress is the start value 0 stepped once per generated sample, and at the end of a
run it is 0 again (41_prng.md R174, R177). -/
structure SeedInv (s : State) : Prop where
  busy : s.fsm = .busy → s.seed = (nextSeed (runConsts s))^[s.sampleIndex.toNat] 0#20
  done : s.fsm = .done → s.seed = 0#20

/-- A limited sample: finite, and within the ceiling (44_limiter.md R244). -/
def IsLimited (v : F64) : Prop :=
  isFinite v = true ∧ scaled negCeilingL ≤ scaled v ∧ scaled v ≤ scaled ceilingL

/-- Every preview entry is a limited sample (44_limiter.md R244; 45_accumulator.md R263, R268). -/
def PreviewLimited (s : State) : Prop :=
  ∀ k : Fin 1000, IsLimited s.preview[k]

/-- Every entry that no capture has filled since START is +0.0 (45_accumulator.md R264; 47_run_control.md R351). -/
def PreviewTailZero (s : State) : Prop :=
  ∀ k : Fin 1000, s.previewCount.toNat ≤ k.val → s.preview[k] = posZero

/-- ENERGY is never negative: no NaN, and the sign bit clear (45_accumulator.md R260). -/
def EnergyNonneg (s : State) : Prop :=
  isNaN s.energy = false ∧ signBit s.energy = false

/-- The frame that stands at output index `j` of the stream (30_encoding.md R126). -/
def frameAt (s : State) (j : Nat) : List Byte :=
  (s.pcmOut.drop (3 * s.channels.toNat * j)).take (3 * s.channels.toNat)

/-- Every preview entry is the sample whose frame stands at its capture index `k * STRIDE` of the stream
(45_accumulator.md R265, R268). -/
def PreviewInStream (s : State) : Prop :=
  ∀ k : Fin 1000, k.val < s.previewCount.toNat →
    frameAt s (k.val * strideOf s) = frameBytes (pcmOfSample s.preview[k]) s.channels.toNat

/-- The observation of a run: PCM_OUT, ENERGY, PREVIEW, PREVIEW_COUNT, TOTAL, STATUS (47_run_control.md R364). -/
structure Observation where
  pcmOut : List Byte
  energy : F64
  preview : Vector F64 1000
  previewCount : BitVec 11
  total : BitVec 64
  status : Word32
deriving DecidableEq, Repr

/-- What the host observes of a state (47_run_control.md R364). -/
def observe (s : State) : Observation where
  pcmOut := s.pcmOut
  energy := s.energy
  preview := s.preview
  previewCount := s.previewCount
  total := s.total
  status := statusWord s

/-- P is the period of the state's tier, for the two tiers there are (10_state.md R46). -/
def HasPeriod (s : State) (p : Nat) : Prop :=
  (s.tier = 0#2 ∧ p = 524288) ∨ (s.tier = 1#2 ∧ p = 1048576)

/-- The band-limited sample of the next sample step is neither a NaN nor an infinity, so that the step
completes (44_limiter.md R243). -/
def NextSampleFinite (s : State) : Prop :=
  isFinite (generateStages s).wires.y = true

/-- A step that does not stop: the machine answers a next state (60_exceptions.md R380). -/
def StepSafe (s : State) : Prop :=
  ∃ t, step s = .next t

end Sys2Proof.Machine
end

