-- ==== Sys2Proof/Certificates/Slice0/Obligations.lean ====
section
/-! DEFINITION. The statements about PNG-CORE for the provers. A statement about every state quantifies over the
constant store too, so it holds for every choice of PINK and BQ (log 7). -/

open Sys2Proof Sys2Proof.Machine

/-! ## Encoding -/

/-- Decoding the packet of a well-formed instruction gives the instruction back (30_encoding.md R110, R111,
R125). The packet forms are the model's (log 15). -/
def Obligations.DecodeOfEncodeIsIdentity : Prop :=
  ∀ i : Instr, i.wf = true → decode (encode i) = .ok i

/-- A packet that decodes is the encoding of the well-formed instruction it decodes to: every word has one
meaning (30_encoding.md R111, R133). The packet forms are the model's (log 15). -/
def Obligations.EncodeOfDecodeIsIdentity : Prop :=
  ∀ (p : Packet) (i : Instr), decode p = .ok i → encode i = p ∧ i.wf = true

/-- Every 15-bit descriptor selects one access: a bus error where OFF[1:0] is not 0, else the read or the write
of the one register at that offset (30_encoding.md R110, R111). -/
def Obligations.DescriptorSelectsOneAccess : Prop :=
  ∀ (off : BitVec 14) (data : Word32),
    (off.toNat % 4 ≠ 0 →
      decode (.mmio32 (0#2 ++ off) none) = .ok (.busErrMisaligned off .read) ∧
      decode (.mmio32 (1#2 ++ off) (some data)) = .ok (.busErrMisaligned off (.write data))) ∧
    (off.toNat % 4 = 0 →
      ∃ r : Reg, r.offset = off ∧ (readInstr r).wf = true ∧
        decode (.mmio32 (0#2 ++ off) none) = .ok (readInstr r) ∧
        decode (.mmio32 (1#2 ++ off) (some data)) = .ok (writeInstr r data) ∧
        ∀ r' : Reg, r'.offset = off → (readInstr r').wf = true → r' = r)

/-- Words written out from the encodings of 30_encoding.md R110, R112, R122, R123, R125 and the examples of
R130 decode to the instructions they stand for. -/
def Obligations.SpecWordsDecode : Prop :=
  decodeTableWord 16 0x0004 = some .rd32Status ∧
  decode (.mmio32 0x4008#16 (some 0x00000001#32)) = .ok (.wr32Tier 1#32) ∧
  decode (.mmio32 0x4000#16 (some 0x00000003#32)) = .ok (.wr32Ctrl 3#32) ∧
  decodeTableWord 16 0x2F38 = some (.rd32PreviewLo 999#10) ∧
  decodeTableWord 16 0x2F3C = some (.rd32PreviewHi 999#10) ∧
  decodeTableWord 16 0x2F40 = some (.rd32Reserved 0x2F40#14) ∧
  decodeTableWord 16 0x0006 = some (.busErrMisaligned 0x0006#14 .read) ∧
  decodeTableWord 8 0x0 = some .prngStep ∧
  decodeTableWord 8 0x7 = some .limit ∧
  decodeTableWord 8 0xC = some .sampleStep

/-! ## The step -/

/-- Where no reset is raised and the slot holds a packet that decodes, the step is the instruction's `exec`, at
the state with that slot taken; so is the step after `withFetchWord`, at the state itself (47_run_control.md
R330; the schedule is the model's, log 1). THE MODEL'S CHOICE (log 14): a packet that is no word of PNG-CORE is
refused by name. -/
def Obligations.StepRunsDecodedPacket : Prop :=
  (∀ (s : State) (p : Packet) (rest : List Slot) (i : Instr),
    s.agenda = { hwReset := false, packet := some p } :: rest → decode p = .ok i →
      step s = exec i { s with agenda := rest }) ∧
  (∀ (s : State) (nbits w : Nat) (i : Instr),
    decodeTableWord nbits w = some i → step (s.withFetchWord nbits w) = exec i s) ∧
  (∀ (s : State) (p : Packet) (rest : List Slot) (e : DecodeError),
    s.agenda = { hwReset := false, packet := some p } :: rest → decode p = .error e →
      step s = .refused (.undecodable e))

/-- Where neither the platform nor the host acts, the step is the core's SAMPLE_STEP (47_run_control.md R330,
R359; log 2). -/
def Obligations.CoreTurnRunsSampleStep : Prop :=
  ∀ s : State,
    (s.agenda = [] → step s = exec .sampleStep s) ∧
    (∀ rest, s.agenda = { hwReset := false, packet := none } :: rest →
      step s = exec .sampleStep { s with agenda := rest })

/-- A raised reset line takes precedence over whatever else stands in its slot and sets every state element to
the value of the table of R420; the constants are unchanged. THE MODEL'S CHOICES: the slot's packet is dropped and
the rest of the schedule kept (log 3), and all six places of b are set, whatever NP is (log 8). -/
def Obligations.HardwareResetSetsEveryElement : Prop :=
  ∀ (s : State) (p : Option Packet) (rest : List Slot),
    s.agenda = { hwReset := true, packet := p } :: rest →
      ∃ t, step s = .next t ∧ t.fsm = .idle ∧ t.tier = 0#2 ∧ t.channels = 0#16 ∧ t.outPeriods = 0#32 ∧
        t.ie = false ∧ t.errCode = 0#4 ∧ t.total = 0#64 ∧ t.sampleIndex = 0#64 ∧ t.seed = 0#20 ∧
        t.b = Vector.replicate 6 0#64 ∧ t.z = 0#64 ∧
        (∀ sec, delayLine t.bq sec = { w1 := 0#64, w2 := 0#64 }) ∧
        t.energy = 0#64 ∧ t.preview = Vector.replicate 1000 0#64 ∧ t.previewCount = 0#11 ∧
        t.pcmOut = [] ∧ irqLevel t = false ∧ t.consts = s.consts ∧ t.agenda = rest

/-- After hardware reset the core takes no step, every register of the window reads 0, the interrupt line is
deasserted and IE is 0 (70_reset_and_hazards.md R421). THE MODEL'S CHOICES: nothing is scheduled and the turn of an
empty schedule is a SAMPLE_STEP, which changes nothing (logs 1, 2), and a preview index of 1000 or more reads 0
(log 15). -/
def Obligations.ResetWindowReadsZero : Prop :=
  step State.reset = .next State.reset ∧
  State.reset.fsm = .idle ∧ State.reset.ie = false ∧ irqLevel State.reset = false ∧
  ∀ r : Reg, exec (readInstr r) State.reset = .next { State.reset with answer := .rdata 0#32 }

/-! ## Host reads -/

/-- RD32 STATUS (0x0004) and RD32 CTRL (0x0000), every bit of RDATA, and nothing else changes (47_run_control.md
R332, R333; 30_encoding.md R113, R114; 60_exceptions.md R391). -/
def Obligations.StatusAndCtrlReadTheirBits : Prop :=
  decode (.mmio32 0x0004#16 none) = .ok .rd32Status ∧ decode (.mmio32 0x0000#16 none) = .ok .rd32Ctrl ∧
  ∀ s : State,
    (∃ v : Word32, exec .rd32Status s = .next { s with answer := .rdata v } ∧
      v.getLsbD 0 = decide (s.fsm = .busy) ∧ v.getLsbD 1 = decide (s.fsm = .done) ∧
      v.getLsbD 2 = decide (s.fsm = .error) ∧ v.getLsbD 3 = false ∧ v.extractLsb' 4 4 = s.errCode ∧
      v.getLsbD 8 = (s.ie && decide (s.fsm = .done ∨ s.fsm = .error)) ∧
      ∀ k, 9 ≤ k → v.getLsbD k = false) ∧
    (∃ v : Word32, exec .rd32Ctrl s = .next { s with answer := .rdata v } ∧
      v.getLsbD 1 = s.ie ∧ ∀ k, k ≠ 1 → v.getLsbD k = false)

/-- RD32 TIER (0x0008), CHANNELS (0x000C), OUT_PERIODS (0x0010), SEED (0x0014) and PREVIEW_COUNT (0x0018) return
the register zero-extended, and nothing else changes (47_run_control.md R336, R338, R340, R343, R344). -/
def Obligations.SmallRegistersReadZeroExtended : Prop :=
  (decode (.mmio32 0x0008#16 none) = .ok .rd32Tier ∧ decode (.mmio32 0x000C#16 none) = .ok .rd32Channels ∧
    decode (.mmio32 0x0010#16 none) = .ok .rd32OutPeriods ∧ decode (.mmio32 0x0014#16 none) = .ok .rd32Seed ∧
    decode (.mmio32 0x0018#16 none) = .ok .rd32PreviewCount) ∧
  ∀ s : State,
    (∃ v : Word32, exec .rd32Tier s = .next { s with answer := .rdata v } ∧ v.toNat = s.tier.toNat) ∧
    (∃ v : Word32, exec .rd32Channels s = .next { s with answer := .rdata v } ∧
      v.toNat = s.channels.toNat) ∧
    exec .rd32OutPeriods s = .next { s with answer := .rdata s.outPeriods } ∧
    (∃ v : Word32, exec .rd32Seed s = .next { s with answer := .rdata v } ∧ v.toNat = s.seed.toNat) ∧
    (∃ v : Word32, exec .rd32PreviewCount s = .next { s with answer := .rdata v } ∧
      v.toNat = s.previewCount.toNat)

/-- The LO and HI reads of SAMPLE_INDEX (0x0020, 0x0024), TOTAL (0x0028, 0x002C) and ENERGY (0x0030, 0x0034)
return bits 31:0 and 63:32, and nothing else changes (47_run_control.md R345 to R350; 20_memory.md R85). -/
def Obligations.WideRegistersReadInHalves : Prop :=
  (decode (.mmio32 0x0020#16 none) = .ok .rd32SampleIndexLo ∧
    decode (.mmio32 0x0024#16 none) = .ok .rd32SampleIndexHi ∧
    decode (.mmio32 0x0028#16 none) = .ok .rd32TotalLo ∧ decode (.mmio32 0x002C#16 none) = .ok .rd32TotalHi ∧
    decode (.mmio32 0x0030#16 none) = .ok .rd32EnergyLo ∧
    decode (.mmio32 0x0034#16 none) = .ok .rd32EnergyHi) ∧
  ∀ s : State,
    exec .rd32SampleIndexLo s = .next { s with answer := .rdata (s.sampleIndex.extractLsb' 0 32) } ∧
    exec .rd32SampleIndexHi s = .next { s with answer := .rdata (s.sampleIndex.extractLsb' 32 32) } ∧
    exec .rd32TotalLo s = .next { s with answer := .rdata (s.total.extractLsb' 0 32) } ∧
    exec .rd32TotalHi s = .next { s with answer := .rdata (s.total.extractLsb' 32 32) } ∧
    exec .rd32EnergyLo s = .next { s with answer := .rdata (s.energy.extractLsb' 0 32) } ∧
    exec .rd32EnergyHi s = .next { s with answer := .rdata (s.energy.extractLsb' 32 32) }

/-- The LO and HI reads of PREVIEW[k] (0x1000 + 8k and 0x1004 + 8k), k = 0 .. 999, return the halves of the entry,
and nothing else changes (47_run_control.md R351, R352). -/
def Obligations.PreviewEntriesReadInHalves : Prop :=
  ∀ (s : State) (k : BitVec 10) (h : k.toNat < 1000),
    decode (.mmio32 (BitVec.ofNat 16 (0x1000 + 8 * k.toNat)) none) = .ok (.rd32PreviewLo k) ∧
    decode (.mmio32 (BitVec.ofNat 16 (0x1004 + 8 * k.toNat)) none) = .ok (.rd32PreviewHi k) ∧
    exec (.rd32PreviewLo k) s = .next { s with answer := .rdata (s.preview[k.toNat].extractLsb' 0 32) } ∧
    exec (.rd32PreviewHi k) s = .next { s with answer := .rdata (s.preview[k.toNat].extractLsb' 32 32) }

/-- A reserved offset (0x01C, 0x038 to 0xFFC, 0x2F40 to 0x3FFC, each a multiple of 4) reads 0x00000000 and ignores
writes, with no error (47_run_control.md R354; 30_encoding.md R123). -/
def Obligations.ReservedSpaceReadsZeroIgnoresWrites : Prop :=
  ∀ (s : State) (off : BitVec 14) (data : Word32),
    (off.toNat % 4 = 0 → off.toNat = 0x01C ∨ (0x038 ≤ off.toNat ∧ off.toNat ≤ 0xFFC) ∨ 0x2F40 ≤ off.toNat →
      decode (.mmio32 (0#2 ++ off) none) = .ok (.rd32Reserved off) ∧
      decode (.mmio32 (1#2 ++ off) (some data)) = .ok (.wr32Reserved off data)) ∧
    exec (.rd32Reserved off) s = .next { s with answer := .rdata 0#32 } ∧
    exec (.wr32Reserved off data) s = .next { s with answer := .written }

/-- No read has a side effect, and it returns the same value whatever the bus answered before, so after any number of
other reads; a write takes effect at CTRL, TIER, CHANNELS and OUT_PERIODS only and is ignored at every other
offset (20_memory.md R87). -/
def Obligations.ReadsHaveNoSideEffect : Prop :=
  (∀ (s : State) (r : Reg), ∃ v : Word32, ∀ a : BusAnswer,
    exec (readInstr r) { s with answer := a } = .next { s with answer := .rdata v }) ∧
  ∀ (s : State) (r : Reg) (data : Word32), r ∉ [Reg.ctrl, .tier, .channels, .outPeriods] →
    exec (writeInstr r data) s = .next { s with answer := .written }

/-- The register window is little-endian: byte 4n + k of the window is bits 8k+7 : 8k of the word that a 32-bit
read at 4n returns (20_memory.md R84). -/
def Obligations.WindowIsLittleEndian : Prop :=
  ∀ (s : State) (off : BitVec 14) (k : Nat), off.toNat % 4 = 0 → k < 4 →
    ∃ (i : Instr) (v : Word32), decode (.mmio32 (0#2 ++ off) none) = .ok i ∧
      exec i s = .next { s with answer := .rdata v } ∧
      windowByte s (off + BitVec.ofNat 14 k) = v.extractLsb' (8 * k) 8

/-! ## Host writes -/

/-- A write to a read-only register is ignored: no state changes and no error, and STATUS has no
write-1-to-clear bit (47_run_control.md R334, R353). -/
def Obligations.ReadOnlyRegistersIgnoreWrites : Prop :=
  (∀ d : Word32,
    decode (.mmio32 0x4004#16 (some d)) = .ok (.wr32Status d) ∧
    decode (.mmio32 0x4014#16 (some d)) = .ok (.wr32Seed d) ∧
    decode (.mmio32 0x4018#16 (some d)) = .ok (.wr32PreviewCount d) ∧
    decode (.mmio32 0x4020#16 (some d)) = .ok (.wr32SampleIndexLo d) ∧
    decode (.mmio32 0x4024#16 (some d)) = .ok (.wr32SampleIndexHi d) ∧
    decode (.mmio32 0x4028#16 (some d)) = .ok (.wr32TotalLo d) ∧
    decode (.mmio32 0x402C#16 (some d)) = .ok (.wr32TotalHi d) ∧
    decode (.mmio32 0x4030#16 (some d)) = .ok (.wr32EnergyLo d) ∧
    decode (.mmio32 0x4034#16 (some d)) = .ok (.wr32EnergyHi d) ∧
    ∀ k : BitVec 10, k.toNat < 1000 →
      decode (.mmio32 (BitVec.ofNat 16 (0x5000 + 8 * k.toNat)) (some d)) = .ok (.wr32PreviewLo k d) ∧
      decode (.mmio32 (BitVec.ofNat 16 (0x5004 + 8 * k.toNat)) (some d)) = .ok (.wr32PreviewHi k d)) ∧
  ∀ (s : State) (d : Word32) (k : BitVec 10) (i : Instr),
    i ∈ [Instr.wr32Status d, .wr32Seed d, .wr32PreviewCount d, .wr32SampleIndexLo d, .wr32SampleIndexHi d,
      .wr32TotalLo d, .wr32TotalHi d, .wr32EnergyLo d, .wr32EnergyHi d, .wr32PreviewLo k d,
      .wr32PreviewHi k d] →
    exec i s = .next { s with answer := .written }

/-- WR32 TIER (0x4008), CHANNELS (0x400C) and OUT_PERIODS (0x4010) store DATA[1:0], DATA[15:0] and DATA while fsm
is not BUSY and are ignored while it is; nothing else changes (47_run_control.md R335, R337, R339). -/
def Obligations.ConfigWritesStoreUnlessBusy : Prop :=
  ∀ (s : State) (d : Word32),
    (decode (.mmio32 0x4008#16 (some d)) = .ok (.wr32Tier d) ∧
      decode (.mmio32 0x400C#16 (some d)) = .ok (.wr32Channels d) ∧
      decode (.mmio32 0x4010#16 (some d)) = .ok (.wr32OutPeriods d)) ∧
    (s.fsm = .busy →
      exec (.wr32Tier d) s = .next { s with answer := .written } ∧
      exec (.wr32Channels d) s = .next { s with answer := .written } ∧
      exec (.wr32OutPeriods d) s = .next { s with answer := .written }) ∧
    (s.fsm ≠ .busy →
      exec (.wr32Tier d) s = .next { s with tier := d.extractLsb' 0 2, answer := .written } ∧
      exec (.wr32Channels d) s = .next { s with channels := d.extractLsb' 0 16, answer := .written } ∧
      exec (.wr32OutPeriods d) s = .next { s with outPeriods := d, answer := .written })

/-- WR32 CTRL without START, and with START while BUSY, writes IE from DATA[1] and does nothing else
(47_run_control.md R331, R360). -/
def Obligations.CtrlWriteWithoutStartSetsIe : Prop :=
  ∀ (s : State) (d : Word32), (d.getLsbD 0 = false ∨ s.fsm = .busy) →
    exec (.wr32Ctrl d) s = .next { s with ie := d.getLsbD 1, answer := .written }

/-- A START that fails validation: the first failing check in the order tier, channels, length gives ERRCODE
1, 2 or 3, fsm becomes ERROR, IE is written, and nothing else changes (47_run_control.md R331, R341;
60_exceptions.md R381, R382, R383). -/
def Obligations.RejectedStartSetsErrorOnly : Prop :=
  ∀ (s : State) (d : Word32), d.getLsbD 0 = true → s.fsm ≠ .busy →
    (2 ≤ s.tier.toNat → exec (.wr32Ctrl d) s =
      .next { s with ie := d.getLsbD 1, fsm := .error, errCode := 1#4, answer := .written }) ∧
    (s.tier.toNat < 2 → s.channels = 0#16 → exec (.wr32Ctrl d) s =
      .next { s with ie := d.getLsbD 1, fsm := .error, errCode := 2#4, answer := .written }) ∧
    (s.tier.toNat < 2 → s.channels ≠ 0#16 → s.outPeriods = 0#32 → exec (.wr32Ctrl d) s =
      .next { s with ie := d.getLsbD 1, fsm := .error, errCode := 3#4, answer := .written })

/-- A START that is accepted: TOTAL = (OUT_PERIODS + 1) * P exactly, the datapath and the results cleared, ERRCODE
0, fsm BUSY; TIER, CHANNELS, OUT_PERIODS and the constants are kept, and IE is as the same write sets it
(47_run_control.md R331, R342; 70_reset_and_hazards.md R423). THE MODEL'S CHOICES: all six places of b are set,
whatever NP is (log 8), and the wires are kept (log 5). -/
def Obligations.AcceptedStartBeginsRun : Prop :=
  ∀ (s : State) (d : Word32) (p : Nat), d.getLsbD 0 = true → s.fsm ≠ .busy → HasPeriod s p →
    s.channels ≠ 0#16 → s.outPeriods ≠ 0#32 →
      ∃ t, exec (.wr32Ctrl d) s = .next t ∧ t.fsm = .busy ∧
        t.total.toNat = (s.outPeriods.toNat + 1) * p ∧ t.sampleIndex = 0#64 ∧ t.seed = 0#20 ∧
        t.b = Vector.replicate 6 0#64 ∧ t.z = 0#64 ∧
        (∀ sec, delayLine t.bq sec = { w1 := 0#64, w2 := 0#64 }) ∧ t.energy = 0#64 ∧
        t.preview = Vector.replicate 1000 0#64 ∧ t.previewCount = 0#11 ∧ t.pcmOut = [] ∧
        t.errCode = 0#4 ∧ t.ie = d.getLsbD 1 ∧ t.tier = s.tier ∧ t.channels = s.channels ∧
        t.outPeriods = s.outPeriods ∧ t.consts = s.consts ∧ t.agenda = s.agenda ∧
        t.answer = .written ∧ t.wires = s.wires

/-- BusError(offset, width, dir) is the answer to an access of another width than 32 bits and to one at an offset
that is no multiple of 4, before the offset is decoded; no state of PNG-CORE changes (60_exceptions.md R388;
20_memory.md R83). -/
def Obligations.RefusedAccessesAnswerBusError : Prop :=
  ∀ (s : State) (off : BitVec 14) (d : Word32) (w : OddWidth) (dir : BusDir),
    (off.toNat % 4 ≠ 0 →
      decode (.mmio32 (0#2 ++ off) none) = .ok (.busErrMisaligned off .read) ∧
      decode (.mmio32 (1#2 ++ off) (some d)) = .ok (.busErrMisaligned off (.write d))) ∧
    decode (.mmioOther w dir off) = .ok (.busErrWidth w off dir) ∧
    exec (.busErrMisaligned off .read) s = .next { s with answer := .busError off .w32 .read } ∧
    exec (.busErrMisaligned off (.write d)) s = .next { s with answer := .busError off .w32 .write } ∧
    exec (.busErrWidth .w8 off dir) s = .next { s with answer := .busError off .w8 dir } ∧
    exec (.busErrWidth .w16 off dir) s = .next { s with answer := .busError off .w16 dir } ∧
    exec (.busErrWidth .w64 off dir) s = .next { s with answer := .busError off .w64 dir }

/-! ## Binary64 -/

/-- The binary64 sum and difference of finite values are the exact sum and difference rounded to nearest, ties
to even, with an infinity past the largest finite value by half a unit, and the IEEE sign of an exact zero
(00_scope.md R16). `scaled` is the value as a multiple of 2^-1074. -/
def Obligations.SumsAreCorrectlyRounded : Prop :=
  ∀ (a b r : F64) (e : Int), isFinite a = true → isFinite b = true →
    ((r = fadd a b ∧ e = scaled a + scaled b) ∨ (r = fsub a b ∧ e = scaled a - scaled b)) →
    (e ≠ 0 → signBit r = decide (e < 0)) ∧
    ((2 ^ 54 - 1) * 2 ^ 2044 ≤ e.natAbs → isInf r = true) ∧
    (e.natAbs < (2 ^ 54 - 1) * 2 ^ 2044 → isFinite r = true ∧
      ∀ c : F64, isFinite c = true →
        |scaled r - e| ≤ |scaled c - e| ∧
        (|scaled r - e| = |scaled c - e| → scaled c ≠ scaled r → fracField r % 2 = 0))

/-- The sign of an exact zero: a sum of zero is -0.0 only where both addends are -0.0, a difference of zero only
where -0.0 less +0.0 is taken (00_scope.md R16, IEEE 754 round to nearest). -/
def Obligations.ExactZeroSumsHaveIeeeSign : Prop :=
  ∀ a b : F64, isFinite a = true → isFinite b = true →
    (scaled a + scaled b = 0 →
      fadd a b = if a = 0x8000000000000000#64 ∧ b = 0x8000000000000000#64 then 0x8000000000000000#64 else 0#64) ∧
    (scaled a - scaled b = 0 →
      fsub a b = if a = 0x8000000000000000#64 ∧ b = 0#64 then 0x8000000000000000#64 else 0#64)

/-- The binary64 product of finite values is the exact product rounded to nearest, ties to even, subnormals kept,
with the exclusive or of the signs (00_scope.md R16). -/
def Obligations.ProductsAreCorrectlyRounded : Prop :=
  ∀ a b : F64, isFinite a = true → isFinite b = true →
    signBit (fmul a b) = (signBit a != signBit b) ∧
    ((2 ^ 54 - 1) * 2 ^ 2044 * unitScale ≤ (scaled a * scaled b).natAbs → isInf (fmul a b) = true) ∧
    ((scaled a * scaled b).natAbs < (2 ^ 54 - 1) * 2 ^ 2044 * unitScale → isFinite (fmul a b) = true ∧
      ∀ c : F64, isFinite c = true →
        |scaled (fmul a b) * unitScale - scaled a * scaled b| ≤ |scaled c * unitScale - scaled a * scaled b| ∧
        (|scaled (fmul a b) * unitScale - scaled a * scaled b| =
            |scaled c * unitScale - scaled a * scaled b| →
          scaled c ≠ scaled (fmul a b) → fracField (fmul a b) % 2 = 0))

/-! ## The noise source -/

/-- PRNG_STEP writes (A * SEED + S) mod P to SEED and nothing else; the product needs no more than 41 bits, and no
seed of the tier is a fixed point (41_prng.md R170). THE MODEL'S CHOICE: for a reserved TIER the step runs with
free constants (log 11). -/
def Obligations.PrngStepIsLcg : Prop :=
  ∀ s : State,
    (s.tier = 0#2 → exec .prngStep s =
      .next { s with seed := BitVec.ofNat 20 ((1664525 * s.seed.toNat + 52737) % 524288) }) ∧
    (s.tier = 1#2 → exec .prngStep s =
      .next { s with seed := BitVec.ofNat 20 ((1664525 * s.seed.toNat + 163841) % 1048576) }) ∧
    (∃ v, exec .prngStep s = .next { s with seed := v }) ∧
    1664525 * s.seed.toNat + 163841 < 2 ^ 41 ∧
    (∀ p t, HasPeriod s p → s.seed.toNat < p → exec .prngStep s = .next t →
      t.seed.toNat < p ∧ t.seed ≠ s.seed)

/-- PRNG_MAP puts fl( fl(SEED * C_MAP) - 1.0 ) on the wire x and changes nothing else (41_prng.md R171, R173).
For a reserved TIER the map runs with a free constant (log 11). -/
def Obligations.PrngMapIsTwoRoundedOperations : Prop :=
  ∀ s : State,
    (s.tier = 0#2 → exec .prngMap s = .next { s with wires := { s.wires with
      x := fsub (fmul (ofNatF s.seed.toNat) 0x3ED0000200004000#64) 0x3FF0000000000000#64 } }) ∧
    (s.tier = 1#2 → exec .prngMap s = .next { s with wires := { s.wires with
      x := fsub (fmul (ofNatF s.seed.toNat) 0x3EC0000100001000#64) 0x3FF0000000000000#64 } }) ∧
    (∃ v, exec .prngMap s = .next { s with wires := { s.wires with x := v } })

/-- The white sample lies in [-1.0, +1.0] and is never -0.0; it is -1.0 at seed 0, the last step of each period, and
+1.0 at seed P - 1, which is reached at step 475003 of a period of tier 0 and at step 335227 of a period of
tier 1, and at no other seed and no other step of the period (41_prng.md R171, R176). -/
def Obligations.WhiteSampleReachesBoundsOncePerPeriod : Prop :=
  (∀ c ∈ [tier0Consts, tier1Consts], (nextSeed c)^[c.period] 0#20 = 0#20 ∧
    ∀ seed : BitVec 20, seed.toNat < c.period →
      isFinite (whiteSample c seed) = true ∧
      -(unitScale : Int) ≤ scaled (whiteSample c seed) ∧ scaled (whiteSample c seed) ≤ unitScale ∧
      whiteSample c seed ≠ 0x8000000000000000#64 ∧
      (whiteSample c seed = 0xBFF0000000000000#64 ↔ seed = 0#20) ∧
      (whiteSample c seed = 0x3FF0000000000000#64 ↔ seed.toNat = c.period - 1)) ∧
  ((nextSeed tier0Consts)^[475003] 0#20 = 524287#20 ∧ (nextSeed tier1Consts)^[335227] 0#20 = 1048575#20) ∧
  (∀ n : Nat, 0 < n → n ≤ 524288 →
    (whiteSample tier0Consts ((nextSeed tier0Consts)^[n] 0#20) = 0xBFF0000000000000#64 ↔ n = 524288) ∧
    (whiteSample tier0Consts ((nextSeed tier0Consts)^[n] 0#20) = 0x3FF0000000000000#64 ↔ n = 475003)) ∧
  ∀ n : Nat, 0 < n → n ≤ 1048576 →
    (whiteSample tier1Consts ((nextSeed tier1Consts)^[n] 0#20) = 0xBFF0000000000000#64 ↔ n = 1048576) ∧
    (whiteSample tier1Consts ((nextSeed tier1Consts)^[n] 0#20) = 0x3FF0000000000000#64 ↔ n = 335227)

/-- The seed sequence of each tier is periodic with period exactly P and takes every value of 0 .. P - 1 once per
period (41_prng.md R175). -/
def Obligations.SeedSequenceHasFullPeriod : Prop :=
  ∀ c ∈ [tier0Consts, tier1Consts],
    Function.minimalPeriod (nextSeed c) 0#20 = c.period ∧
    ∀ v : BitVec 20, v.toNat < c.period → ∃! n : Nat, n < c.period ∧ (nextSeed c)^[n] 0#20 = v

/-! ## The pink network and the cascade -/

/-- PINK_STEP with five registers and with six: each register's update, the sum in index order, then the old
delayed tap, the direct tap and the output gain, and the new delayed tap; nothing else changes. With any
other NP it completes as well (42_pink.md R191; 90_conflicts.md C1; log 8). -/
def Obligations.PinkStepUpdatesAndSums : Prop :=
  ∀ s : State,
    let k := s.consts.pink
    let x := s.wires.x
    let nb : Fin 6 → F64 := fun i => fadd (fmul k.pa[i] s.b[i]) (fmul x k.pg[i])
    let sum5 := fadd (fadd (fadd (fadd (nb 0) (nb 1)) (nb 2)) (nb 3)) (nb 4)
    let out : F64 → F64 := fun sum => fmul (fadd (fadd sum s.z) (fmul x k.pd)) k.pgain
    (k.np.val = 5 → exec .pinkStep s = .next { s with
      b := #v[nb 0, nb 1, nb 2, nb 3, nb 4, s.b[5]]
      z := fmul x k.pe
      wires := { s.wires with p := out sum5 } }) ∧
    (k.np.val = 6 → exec .pinkStep s = .next { s with
      b := #v[nb 0, nb 1, nb 2, nb 3, nb 4, nb 5]
      z := fmul x k.pe
      wires := { s.wires with p := out (fadd sum5 (nb 5)) } }) ∧
    (∃ b' p', exec .pinkStep s = .next { s with b := b', z := fmul x k.pe, wires := { s.wires with p := p' } })

/-- Each of the four sections computes w and its output from the OLD w1 and w2 and the coefficients of the tier,
shifts its own delay line, writes its own wire, and changes nothing else (43_biquad.md R212 to R217). THE MODEL'S
CHOICE: with a reserved TIER the coefficients are free (log 11). -/
def Obligations.SectionsAreDirectFormTwo : Prop :=
  ∀ (s : State) (set : BqSet),
    (s.tier = 0#2 → set = s.consts.bqTier0) → (s.tier = 1#2 → set = s.consts.bqTier1) →
    (2 ≤ s.tier.toNat → set = Config.reservedBq s.tier) →
    let w : BqCoeffs → DelayLine → F64 → F64 :=
      fun c d x => fsub (fsub x (fmul c.a1 d.w1)) (fmul c.a2 d.w2)
    let out : BqCoeffs → DelayLine → F64 → F64 :=
      fun c d x => fadd (fadd (fmul c.b0 (w c d x)) (fmul c.b1 d.w1)) (fmul c.b2 d.w2)
    exec .bqHp1 s = .next { s with
      bq := { s.bq with hp1 := { w1 := w set.hp1 s.bq.hp1 s.wires.p, w2 := s.bq.hp1.w1 } }
      wires := { s.wires with hp1 := out set.hp1 s.bq.hp1 s.wires.p } } ∧
    exec .bqHp2 s = .next { s with
      bq := { s.bq with hp2 := { w1 := w set.hp2 s.bq.hp2 s.wires.hp1, w2 := s.bq.hp2.w1 } }
      wires := { s.wires with hp2 := out set.hp2 s.bq.hp2 s.wires.hp1 } } ∧
    exec .bqLp1 s = .next { s with
      bq := { s.bq with lp1 := { w1 := w set.lp1 s.bq.lp1 s.wires.hp2, w2 := s.bq.lp1.w1 } }
      wires := { s.wires with lp1 := out set.lp1 s.bq.lp1 s.wires.hp2 } } ∧
    exec .bqLp2 s = .next { s with
      bq := { s.bq with lp2 := { w1 := w set.lp2 s.bq.lp2 s.wires.lp1, w2 := s.bq.lp2.w1 } }
      wires := { s.wires with y := out set.lp2 s.bq.lp2 s.wires.lp1 } }

/-! ## The limiter -/

/-- LIMIT clips a finite sample to ±L by exact comparison, a value at the ceiling included in what passes, changes
nothing else, and leaves a sample within ±L (44_limiter.md R240, R241, R242, R244). -/
def Obligations.LimitClipsToCeiling : Prop :=
  ∀ s : State, isFinite s.wires.y = true →
    (scaled 0x3FD57012E19E480D#64 < scaled s.wires.y →
      exec .limit s = .next { s with wires := { s.wires with s := 0x3FD57012E19E480D#64 } }) ∧
    (scaled s.wires.y < scaled 0xBFD57012E19E480D#64 →
      exec .limit s = .next { s with wires := { s.wires with s := 0xBFD57012E19E480D#64 } }) ∧
    (scaled 0xBFD57012E19E480D#64 ≤ scaled s.wires.y → scaled s.wires.y ≤ scaled 0x3FD57012E19E480D#64 →
      exec .limit s = .next { s with wires := { s.wires with s := s.wires.y } }) ∧
    ∃ t, exec .limit s = .next t ∧ IsLimited t.wires.s

/-- LIMIT on a NaN or an infinity, and the sample step whose band-limited sample is one, stop with
NonFinite(SAMPLE_INDEX) (44_limiter.md R243; 60_exceptions.md R389). -/
def Obligations.NonFiniteSampleFaults : Prop :=
  ∀ s : State,
    ((isNaN s.wires.y = true ∨ isInf s.wires.y = true) →
      exec .limit s = .fault (.nonFinite s.sampleIndex)) ∧
    (s.fsm = .busy → ¬ NextSampleFinite s → exec .sampleStep s = .fault (.nonFinite s.sampleIndex))

/-! ## The accumulator and the preview tap -/

/-- ENERGY_ACC adds fl(s * s) to ENERGY for an output sample (i >= P) and does nothing in the warm-up; nothing else
changes (45_accumulator.md R260, R261). For a reserved TIER whether i >= P is free (log 11). -/
def Obligations.EnergyAccAddsSquareOfOutputSample : Prop :=
  ∀ (s : State),
    (∀ p, HasPeriod s p → s.sampleIndex.toNat < p → exec .energyAcc s = .next s) ∧
    (∀ p, HasPeriod s p → p ≤ s.sampleIndex.toNat →
      exec .energyAcc s = .next { s with energy := fadd s.energy (fmul s.wires.s s.wires.s) }) ∧
    (∃ e, exec .energyAcc s = .next { s with energy := e })

/-- PREVIEW_CAP stores the limited sample in PREVIEW[PREVIEW_COUNT] and counts it where the output index is a
multiple of the stride and the preview is not full, and does nothing else and nothing elsewhere
(45_accumulator.md R263). THE MODEL'S CHOICES in the last clause: where the stride is not positive the capture is free
(log 12), and with a reserved TIER the stage completes and whether i >= P is free (log 11). -/
def Obligations.PreviewCapStoresAtStride : Prop :=
  ∀ s : State,
    (∀ p, HasPeriod s p → s.sampleIndex.toNat < p → exec .previewCap s = .next s) ∧
    (∀ p stride, HasPeriod s p → p ≤ s.sampleIndex.toNat → p ≤ s.total.toNat →
      stride = (s.total.toNat - p) / 1000 → 0 < stride →
      (((s.sampleIndex.toNat - p) % stride ≠ 0 ∨ 1000 ≤ s.previewCount.toNat) →
        exec .previewCap s = .next s) ∧
      ((s.sampleIndex.toNat - p) % stride = 0 → ∀ h : s.previewCount.toNat < 1000,
        exec .previewCap s = .next { s with
          preview := s.preview.set s.previewCount.toNat s.wires.s h
          previewCount := s.previewCount + 1#11 })) ∧
    (∃ v c, exec .previewCap s = .next { s with preview := v, previewCount := c })

/-- The preview fills to 1000 entries, each within the stream: with STRIDE = floor(NOUT / 1000) and NOUT >= 1000,
every capture index k * STRIDE, k = 0 .. 999, is an output index (45_accumulator.md R265). -/
def Obligations.CaptureIndicesAreOutputSamples : Prop :=
  ∀ s : State, BusyInv s →
    524 ≤ strideOf s ∧ 999 * strideOf s < noutOf s ∧
    noutOf s = s.outPeriods.toNat * periodOf s ∧ s.total.toNat = noutOf s + periodOf s

/-! ## The PCM formatter -/

/-- PCM_CONV puts clamp(trunc(fl(s * (2^31 - 1))), -2^31, 2^31 - 1) on the wire n for an output sample and does
nothing in the warm-up; nothing else changes (46_pcm_formatter.md R290). THE MODEL'S CHOICES in the last clause: for a NaN or
an infinity the value is free (log 10), and with a reserved TIER the stage completes and whether i >= P is free
(log 11). -/
def Obligations.PcmConvTruncatesAndSaturates : Prop :=
  ∀ s : State,
    (∀ p, HasPeriod s p → s.sampleIndex.toNat < p → exec .pcmConv s = .next s) ∧
    (∀ p t, HasPeriod s p → p ≤ s.sampleIndex.toNat → isFinite s.wires.s = true →
      t = ratOf (fmul s.wires.s 0x41DFFFFFFFC00000#64) →
      ∃ n : Word32, exec .pcmConv s = .next { s with wires := { s.wires with n := n } } ∧
        n.toInt = max (-2 ^ 31) (min (2 ^ 31 - 1) (if 0 ≤ t then ⌊t⌋ else ⌈t⌉))) ∧
    (∃ n, exec .pcmConv s = .next { s with wires := { s.wires with n := n } })

/-- The saturation never takes effect on a limited sample: |s| <= L gives an integer between -719332802 and
719332802 (46_pcm_formatter.md R293). -/
def Obligations.LimitedSampleNeverSaturates : Prop :=
  ∀ v : F64, IsLimited v → -719332802 ≤ (pcmOfSample v).toInt ∧ (pcmOfSample v).toInt ≤ 719332802

/-- PCM_EMIT appends the bytes n[15:8], n[23:16], n[31:24] once per channel for an output sample and nothing in the
warm-up; nothing else changes (46_pcm_formatter.md R291, R292; 30_encoding.md R126). THE MODEL'S CHOICE in the last
clause: with a reserved TIER the stage completes and whether i >= P is free (log 11). -/
def Obligations.PcmEmitAppendsOneFrame : Prop :=
  ∀ s : State,
    (∀ p, HasPeriod s p → s.sampleIndex.toNat < p → exec .pcmEmit s = .next s) ∧
    (∀ p, HasPeriod s p → p ≤ s.sampleIndex.toNat →
      exec .pcmEmit s = .next { s with pcmOut := s.pcmOut ++ (List.replicate s.channels.toNat
        [s.wires.n.extractLsb' 8 8, s.wires.n.extractLsb' 16 8, s.wires.n.extractLsb' 24 8]).flatten }) ∧
    (∃ bytes, exec .pcmEmit s = .next { s with pcmOut := s.pcmOut ++ bytes })

/-- A frame has 3 bytes per channel, every channel's triple is the same, and read as a signed little-endian 24-bit
number it is floor(n / 256) (30_encoding.md R126, R127; 46_pcm_formatter.md R292, R294). -/
def Obligations.FrameHoldsFloorOfSample : Prop :=
  ∀ (n : Word32) (channels : Nat),
    (frameBytes n channels).length = 3 * channels ∧
    ∀ c < channels, ∃ b0 b1 b2 : Byte,
      ((frameBytes n channels).drop (3 * c)).take 3 = [b0, b1, b2] ∧
      (b2 ++ b1 ++ b0 : BitVec 24).toInt = ⌊(n.toInt : Rat) / 256⌋

/-! ## The sample step -/

/-- While fsm is not BUSY the core has no step: SAMPLE_STEP changes nothing (R358, as log 2 reads it). While BUSY,
SAMPLE_STEP is its stages in the order of their ids, the output stages only from index P on, then SAMPLE_INDEX + 1, and RUN_END
where that is TOTAL (47_run_control.md R355, R356, R357). THE MODEL'S CHOICES: the wires end with the
step (log 5), and the index after 2^64 - 1 is free (log 13). -/
def Obligations.SampleStepIsItsStagesInOrder : Prop :=
  (∀ s : State, s.fsm ≠ .busy → exec .sampleStep s = .next s) ∧
  ∀ s : State, s.fsm = .busy →
    exec .sampleStep s =
      match runInstrs [.prngStep, .prngMap, .pinkStep, .bqHp1, .bqHp2, .bqLp1, .bqLp2, .limit] s with
      | .next t =>
        (match (if periodOf s ≤ s.sampleIndex.toNat then
            runInstrs [.energyAcc, .previewCap, .pcmConv, .pcmEmit] t else .next t) with
        | .next u =>
          (match (if s.sampleIndex.toNat + 1 = s.total.toNat then exec .runEnd u else .next u) with
          | .next v => .next { v with sampleIndex := nextIndex s.sampleIndex, wires := Wires.idle }
          | stop => stop)
        | stop => stop)
      | stop => stop

/-- A BUSY core whose next band-limited sample is finite completes its sample step. In the warm-up the step advances
SAMPLE_INDEX, SEED and the filters and leaves the results; an output sample adds its square, emits one frame and
may enter the preview; the last sample ends the run; the configuration, IE, ERRCODE, TOTAL, the constants and the
host's side are unchanged (47_run_control.md R355, R356, R357; 10_state.md R51). -/
def Obligations.SampleStepCompletes : Prop :=
  ∀ (s : State) (g : State) (v : F64), s.fsm = .busy → NextSampleFinite s → s.sampleIndex.toNat + 1 < 2 ^ 64 →
    g = generateStages s → v = clipSample g.wires.y →
    ∃ t, exec .sampleStep s = .next t ∧
      t.sampleIndex.toNat = s.sampleIndex.toNat + 1 ∧ t.seed = nextSeed (runConsts s) s.seed ∧
      t.b = g.b ∧ t.z = g.z ∧ t.bq = g.bq ∧
      t.fsm = (if s.sampleIndex.toNat + 1 = s.total.toNat then Fsm.done else Fsm.busy) ∧
      (s.sampleIndex.toNat < periodOf s → t.energy = s.energy ∧ t.preview = s.preview ∧
        t.previewCount = s.previewCount ∧ t.pcmOut = s.pcmOut) ∧
      (periodOf s ≤ s.sampleIndex.toNat → t.energy = fadd s.energy (fmul v v) ∧
        t.pcmOut = s.pcmOut ++ frameBytes (pcmOfSample v) s.channels.toNat ∧
        ((t.preview = s.preview ∧ t.previewCount = s.previewCount) ∨
          (s.previewCount.toNat < 1000 ∧ t.previewCount.toNat = s.previewCount.toNat + 1 ∧
            t.preview = s.preview.setIfInBounds s.previewCount.toNat v))) ∧
      t.tier = s.tier ∧ t.channels = s.channels ∧ t.outPeriods = s.outPeriods ∧ t.ie = s.ie ∧
      t.errCode = s.errCode ∧ t.total = s.total ∧ t.consts = s.consts ∧ t.answer = s.answer ∧
      t.agenda = s.agenda

/-- RUN_END sets fsm to DONE and changes nothing else (47_run_control.md R357). -/
def Obligations.RunEndSetsDone : Prop :=
  ∀ s : State, exec .runEnd s = .next { s with fsm := .done }

/-- The reserved core operation ids 14 and 15 are never performed: the model refuses them by name
(30_encoding.md R125). -/
def Obligations.ReservedCoreOpsAreNeverPerformed : Prop :=
  ∀ s : State, exec .reservedCoreOp14 s = .refused (.reservedCoreOp 14#4) ∧
    exec .reservedCoreOp15 s = .refused (.reservedCoreOp 15#4)

/-! ## Whole-machine rules -/

/-- No step writes the constant store, a hardware reset included (10_state.md R48, R49; 20_memory.md R96;
70_reset_and_hazards.md R420). -/
def Obligations.NoStepWritesConstantStore : Prop :=
  ∀ s t : State, step s = .next t → t.consts = s.consts

/-- While BUSY, and short of a hardware reset, no step changes TIER, CHANNELS, OUT_PERIODS or TOTAL
(10_state.md R32, R33, R34, R39; 70_reset_and_hazards.md R427). -/
def Obligations.ConfigurationFrozenWhileBusy : Prop :=
  ∀ s t : State, s.fsm = .busy → (nextSlot s).hwReset = false → step s = .next t →
    t.tier = s.tier ∧ t.channels = s.channels ∧ t.outPeriods = s.outPeriods ∧ t.total = s.total

/-- A run cannot be cancelled or restarted by the host: while BUSY every host access completes and changes no more
than IE and the bus's answer (47_run_control.md R360; 70_reset_and_hazards.md R430). -/
def Obligations.HostCannotDisturbRun : Prop :=
  ∀ (s : State) (i : Instr), s.fsm = .busy → isHostAccess i = true →
    ∃ t, exec i s = .next t ∧ t = { s with ie := t.ie, answer := t.answer }

/-- Only START, the end of a run and RUN_END change fsm among the instructions (10_state.md R31). -/
def Obligations.OnlyStartAndRunEndChangeFsm : Prop :=
  ∀ (i : Instr) (s t : State), exec i s = .next t → t.fsm ≠ s.fsm →
    (∃ d, i = .wr32Ctrl d ∧ d.getLsbD 0 = true ∧ s.fsm ≠ .busy ∧ (t.fsm = .busy ∨ t.fsm = .error)) ∨
    (i = .sampleStep ∧ s.fsm = .busy ∧ t.fsm = .done ∧ s.sampleIndex.toNat + 1 = s.total.toNat) ∨
    (i = .runEnd ∧ t.fsm = .done)

/-- After a run, and after a rejected START, the results stay until the next accepted START: a host access outside a
run that does not start one leaves them all (47_run_control.md R357; 60_exceptions.md R381). -/
def Obligations.ResultsHeldOutsideRun : Prop :=
  ∀ (s t : State) (i : Instr), s.fsm ≠ .busy → isHostAccess i = true → exec i s = .next t → t.fsm ≠ .busy →
    t.total = s.total ∧ t.sampleIndex = s.sampleIndex ∧ t.seed = s.seed ∧ t.b = s.b ∧ t.z = s.z ∧
    t.bq = s.bq ∧ t.energy = s.energy ∧ t.preview = s.preview ∧ t.previewCount = s.previewCount ∧
    t.pcmOut = s.pcmOut

/-- The core's operations write none of the host's registers, no flag but fsm, and no constant
(10_state.md R51, R53; 60_exceptions.md R384). -/
def Obligations.CoreOpsLeaveHostState : Prop :=
  ∀ (i : Instr) (s t : State), isHostAccess i = false → exec i s = .next t →
    t.tier = s.tier ∧ t.channels = s.channels ∧ t.outPeriods = s.outPeriods ∧ t.ie = s.ie ∧
    t.errCode = s.errCode ∧ t.total = s.total ∧ t.consts = s.consts ∧ t.answer = s.answer ∧
    t.agenda = s.agenda

/-- A step of the machine answers a next state, or stops with NonFinite in a BUSY core: no other outcome is left, for
every schedule of machine steps (60_exceptions.md R380, R389, R390). -/
def Obligations.StepsStopOnlyWithNonFinite : Prop :=
  ∀ s : State, StepsOnly s →
    StepSafe s ∨ (s.fsm = .busy ∧ step s = .fault (.nonFinite s.sampleIndex))

/-! ## Invariants -/

/-- The invariants hold right after hardware reset (10_state.md R56; 70_reset_and_hazards.md R420). -/
def Obligations.InvariantsHoldAtReset : Prop :=
  MachineInv State.reset ∧ SeedInv State.reset ∧ PreviewLimited State.reset ∧ EnergyNonneg State.reset ∧
    PreviewInStream State.reset ∧ PreviewTailZero State.reset

/-- The invariant of 10_state.md R56 is kept by every step of every schedule of machine steps. Its DONE clause is the
model's reading of R56 (log 16). -/
def Obligations.MachineInvariantIsKept : Prop :=
  ∀ s t : State, MachineInv s → step s = .next t → MachineInv t

/-- SEED is the start value stepped once per generated sample, and 0 again at the end of every run: both are kept by
every step (41_prng.md R174, R177). -/
def Obligations.SeedFollowsSampleIndex : Prop :=
  ∀ s t : State, MachineInv s → SeedInv s → step s = .next t → SeedInv t

/-- Every step of a schedule of machine steps keeps every preview entry within ±L and ENERGY not negative, and every
step of every schedule keeps the entries from PREVIEW_COUNT on at +0.0 (44_limiter.md R244; 45_accumulator.md
R260, R263, R264, R268; 47_run_control.md R351). -/
def Obligations.ResultsStayWithinBounds : Prop :=
  (∀ s t : State, StepsOnly s → PreviewLimited s → EnergyNonneg s → step s = .next t →
    PreviewLimited t ∧ EnergyNonneg t) ∧
  ∀ s t : State, PreviewTailZero s → step s = .next t → PreviewTailZero t

/-- An accepted START leaves a preview that agrees with the stream, and every sample step of a run keeps it so: each
preview entry is, verbatim, the sample whose frame stands at index k * STRIDE of the stream
(45_accumulator.md R265, R268). -/
def Obligations.PreviewEntriesStandInStream : Prop :=
  (∀ (s t : State) (d : Word32), s.fsm ≠ .busy → exec (.wr32Ctrl d) s = .next t → t.fsm = .busy →
    PreviewInStream t) ∧
  (∀ s t : State, MachineInv s → s.fsm = .busy → PreviewInStream s → exec .sampleStep s = .next t →
    PreviewInStream t)

/-- A run ends after exactly TOTAL sample steps and not before, whatever the host accesses between them, with
PREVIEW_COUNT = 1000 and 3 * CHANNELS * NOUT bytes in PCM_OUT (70_reset_and_hazards.md R435;
46_pcm_formatter.md R295; 47_run_control.md R357, R359). -/
def Obligations.RunEndsAfterTotalSteps : Prop :=
  ∀ (s t : State) (steps : List Instr), MachineInv s → s.fsm = .busy →
    (∀ i ∈ steps, isMachineStep i = true) → runInstrs steps s = .next t →
    (s.sampleIndex.toNat + steps.count .sampleStep < s.total.toNat → t.fsm = .busy ∧
      t.sampleIndex.toNat = s.sampleIndex.toNat + steps.count .sampleStep) ∧
    (∀ u, s.sampleIndex.toNat + steps.count .sampleStep + 1 = s.total.toNat → exec .sampleStep t = .next u →
      u.fsm = .done ∧ u.sampleIndex = s.total ∧ u.total = s.total ∧ u.previewCount.toNat = 1000 ∧
      u.pcmOut.length = 3 * s.channels.toNat * (s.outPeriods.toNat * periodOf s))

/-- A run is a function of TIER, CHANNELS, OUT_PERIODS and the parameters alone: from two states that agree on them,
an accepted START and the same number of sample steps, with any host accesses between them, end in states with
the same stream, energy, preview, TOTAL, fsm and ERRCODE, and with the same observation where IE is the same,
since STATUS shows IRQ (47_run_control.md R359, R364, R365; log 16). -/
def Obligations.ObservationDependsOnConfigurationOnly : Prop :=
  ∀ (s s' t t' u : State) (steps steps' : List Instr), ConfigValid s → s'.tier = s.tier →
    s'.channels = s.channels → s'.outPeriods = s.outPeriods → s'.consts = s.consts →
    (∀ i ∈ steps ++ steps', isMachineStep i = true) → steps'.count .sampleStep = steps.count .sampleStep →
    steps.count .sampleStep < (runTotal s).toNat →
    runInstrs steps (acceptStart s) = .next t → runInstrs steps' (acceptStart s') = .next t' →
    exec .sampleStep t = .next u →
    ∃ u', exec .sampleStep t' = .next u' ∧ u'.pcmOut = u.pcmOut ∧ u'.energy = u.energy ∧
      u'.preview = u.preview ∧ u'.previewCount = u.previewCount ∧ u'.total = u.total ∧ u'.fsm = u.fsm ∧
      u'.errCode = u.errCode ∧ (u'.ie = u.ie → observe u' = observe u)

/-! ## The host's side -/

/-- The 44-byte header of a configuration that the header can describe: parsing its fields back recovers the values
of 46_pcm_formatter.md R296 to R298 (30_encoding.md R128). -/
def Obligations.HeaderFieldsReadBack : Prop :=
  ∀ rate channels nout : Nat, headerFits rate channels nout = true →
    ∀ h, h = headerBytes rate channels nout →
      h.length = 44 ∧ h.take 4 = [0x52#8, 0x49#8, 0x46#8, 0x46#8] ∧
      headerField h 4 4 = 36 + 3 * channels * nout ∧
      (h.drop 8).take 8 = [0x57#8, 0x41#8, 0x56#8, 0x45#8, 0x66#8, 0x6D#8, 0x74#8, 0x20#8] ∧
      headerField h 16 4 = 16 ∧ headerField h 20 2 = 1 ∧ headerField h 22 2 = channels ∧
      (rate < 2 ^ 32 → headerField h 24 4 = rate) ∧ headerField h 28 4 = rate * channels * 3 ∧
      headerField h 32 2 = channels * 3 ∧ headerField h 34 2 = 24 ∧
      (h.drop 36).take 4 = [0x64#8, 0x61#8, 0x74#8, 0x61#8] ∧
      headerField h 40 4 = 3 * channels * nout

/-- A run that the host plans by its length derivation is accepted by the core: after CONFIG and START with the
plan's values the core is BUSY with TOTAL = (OUT_PERIODS + 1) * P; so it is for every request that the host
admits. The host rejects as ResourceExhaustion a planned run that breaks a limit of the header's fields
(47_run_control.md R361, R362; 46_pcm_formatter.md R300; 30_encoding.md R131). -/
def Obligations.PlannedRunIsAccepted : Prop :=
  (∀ (s : State) (rate channels : Nat) (d : F64) (plan : RunPlan),
    planRun rate d channels = .ok plan ∧ channels < 65536 ∨ requestRun rate d channels = .ok plan →
    s.fsm ≠ .busy →
    ∃ t, runInstrs (configAccesses (plan.tier.setWidth 32) (BitVec.ofNat 32 channels) plan.outPeriods ++
        startAccesses) s = .next t ∧
      t.fsm = .busy ∧ 1 ≤ plan.outPeriods.toNat ∧
      ((rate = 48000 ∧ t.total.toNat = (plan.outPeriods.toNat + 1) * 524288) ∨
        (rate = 96000 ∧ t.total.toNat = (plan.outPeriods.toNat + 1) * 1048576))) ∧
  ∀ (rate channels : Nat) (d : F64) (plan : RunPlan) (p : Nat), planRun rate d channels = .ok plan →
    (rate = 48000 ∧ p = 524288 ∨ rate = 96000 ∧ p = 1048576) →
    (65535 < 3 * channels ∨ 2 ^ 32 - 1 < rate * 3 * channels ∨
      2 ^ 32 - 1 < 36 + 3 * channels * (plan.outPeriods.toNat * p) →
      requestRun rate d channels = .error .resourceExhaustion) ∧
    (3 * channels ≤ 65535 → rate * 3 * channels ≤ 2 ^ 32 - 1 →
      36 + 3 * channels * (plan.outPeriods.toNat * p) ≤ 2 ^ 32 - 1 → requestRun rate d channels = .ok plan)

/-- RD64 with no sample step between its reads returns the 64-bit value and changes nothing but the bus's answer. WAIT
goes on while the core is BUSY or IDLE and ends at a read that shows DONE or ERR; in a run it ends once the core
has taken the sample steps that are left (30_encoding.md R131; 70_reset_and_hazards.md R435). How many sample
steps fall between two reads is the model's list (log 1). -/
def Obligations.PseudoInstructionsReadAndWait : Prop :=
  (∀ (s : State) (x : WideReg), ∃ t, rd64Run x 0 s = some (wideValue s x, t) ∧ t = { s with answer := t.answer }) ∧
  (∀ s : State,
    ((s.fsm = .done ∨ s.fsm = .error) → ∀ rest,
      waitRun (0 :: rest) s = some (.next { s with answer := .rdata (statusWord s) })) ∧
    ((s.fsm = .busy ∨ s.fsm = .idle) → ∀ rest,
      waitRun (0 :: rest) s = waitRun rest { s with answer := .rdata (statusWord s) })) ∧
  ∀ (s t : State) (turns : Nat) (rest : List Nat), MachineInv s → s.fsm = .busy →
    s.total.toNat ≤ s.sampleIndex.toNat + turns → runInstrs (afterTurns turns []) s = .next t →
    ∃ u, waitRun (turns :: rest) s = some (.next u) ∧ u.fsm = .done ∧ u = { t with answer := u.answer }
end

