-- ==== Sys2Proof/Laws/State.lean ====
section
/-! SUPPORT. Every field after every shared update of the state: one lemma per field per update, each by
unfolding. -/

namespace Sys2Proof.Machine

@[simp] theorem answerRead_fsm (v : Word32) (s : State) : (answerRead v s).fsm = s.fsm := rfl
@[simp] theorem answerRead_tier (v : Word32) (s : State) : (answerRead v s).tier = s.tier := rfl
@[simp] theorem answerRead_channels (v : Word32) (s : State) : (answerRead v s).channels = s.channels := rfl
@[simp] theorem answerRead_outPeriods (v : Word32) (s : State) :
    (answerRead v s).outPeriods =
      s.outPeriods := rfl
@[simp] theorem answerRead_ie (v : Word32) (s : State) : (answerRead v s).ie = s.ie := rfl
@[simp] theorem answerRead_errCode (v : Word32) (s : State) : (answerRead v s).errCode = s.errCode := rfl
@[simp] theorem answerRead_total (v : Word32) (s : State) : (answerRead v s).total = s.total := rfl
@[simp] theorem answerRead_sampleIndex (v : Word32) (s : State) :
    (answerRead v s).sampleIndex =
      s.sampleIndex := rfl
@[simp] theorem answerRead_seed (v : Word32) (s : State) : (answerRead v s).seed = s.seed := rfl
@[simp] theorem answerRead_b (v : Word32) (s : State) : (answerRead v s).b = s.b := rfl
@[simp] theorem answerRead_z (v : Word32) (s : State) : (answerRead v s).z = s.z := rfl
@[simp] theorem answerRead_bq (v : Word32) (s : State) : (answerRead v s).bq = s.bq := rfl
@[simp] theorem answerRead_energy (v : Word32) (s : State) : (answerRead v s).energy = s.energy := rfl
@[simp] theorem answerRead_preview (v : Word32) (s : State) : (answerRead v s).preview = s.preview := rfl
@[simp] theorem answerRead_previewCount (v : Word32) (s : State) :
    (answerRead v s).previewCount =
      s.previewCount := rfl
@[simp] theorem answerRead_pcmOut (v : Word32) (s : State) : (answerRead v s).pcmOut = s.pcmOut := rfl
@[simp] theorem answerRead_consts (v : Word32) (s : State) : (answerRead v s).consts = s.consts := rfl
@[simp] theorem answerRead_wires (v : Word32) (s : State) : (answerRead v s).wires = s.wires := rfl
@[simp] theorem answerRead_answer (v : Word32) (s : State) : (answerRead v s).answer = .rdata v := rfl
@[simp] theorem answerRead_agenda (v : Word32) (s : State) : (answerRead v s).agenda = s.agenda := rfl

@[simp] theorem answerWrite_fsm (s : State) : (answerWrite s).fsm = s.fsm := rfl
@[simp] theorem answerWrite_tier (s : State) : (answerWrite s).tier = s.tier := rfl
@[simp] theorem answerWrite_channels (s : State) : (answerWrite s).channels = s.channels := rfl
@[simp] theorem answerWrite_outPeriods (s : State) : (answerWrite s).outPeriods = s.outPeriods := rfl
@[simp] theorem answerWrite_ie (s : State) : (answerWrite s).ie = s.ie := rfl
@[simp] theorem answerWrite_errCode (s : State) : (answerWrite s).errCode = s.errCode := rfl
@[simp] theorem answerWrite_total (s : State) : (answerWrite s).total = s.total := rfl
@[simp] theorem answerWrite_sampleIndex (s : State) : (answerWrite s).sampleIndex = s.sampleIndex := rfl
@[simp] theorem answerWrite_seed (s : State) : (answerWrite s).seed = s.seed := rfl
@[simp] theorem answerWrite_b (s : State) : (answerWrite s).b = s.b := rfl
@[simp] theorem answerWrite_z (s : State) : (answerWrite s).z = s.z := rfl
@[simp] theorem answerWrite_bq (s : State) : (answerWrite s).bq = s.bq := rfl
@[simp] theorem answerWrite_energy (s : State) : (answerWrite s).energy = s.energy := rfl
@[simp] theorem answerWrite_preview (s : State) : (answerWrite s).preview = s.preview := rfl
@[simp] theorem answerWrite_previewCount (s : State) : (answerWrite s).previewCount = s.previewCount := rfl
@[simp] theorem answerWrite_pcmOut (s : State) : (answerWrite s).pcmOut = s.pcmOut := rfl
@[simp] theorem answerWrite_consts (s : State) : (answerWrite s).consts = s.consts := rfl
@[simp] theorem answerWrite_wires (s : State) : (answerWrite s).wires = s.wires := rfl
@[simp] theorem answerWrite_answer (s : State) : (answerWrite s).answer = .written := rfl
@[simp] theorem answerWrite_agenda (s : State) : (answerWrite s).agenda = s.agenda := rfl

@[simp] theorem answerBusError_fsm (off : BitVec 14) (w : BusWidth) (dir : BusDir) (s : State) :
    (answerBusError off w dir s).fsm =
      s.fsm := rfl
@[simp] theorem answerBusError_tier (off : BitVec 14) (w : BusWidth) (dir : BusDir) (s : State) :
    (answerBusError off w dir s).tier =
      s.tier := rfl
@[simp] theorem answerBusError_channels (off : BitVec 14) (w : BusWidth) (dir : BusDir) (s : State) :
    (answerBusError off w dir s).channels =
      s.channels := rfl
@[simp] theorem answerBusError_outPeriods (off : BitVec 14) (w : BusWidth) (dir : BusDir) (s : State) :
    (answerBusError off w dir s).outPeriods =
      s.outPeriods := rfl
@[simp] theorem answerBusError_ie (off : BitVec 14) (w : BusWidth) (dir : BusDir) (s : State) :
    (answerBusError off w dir s).ie =
      s.ie := rfl
@[simp] theorem answerBusError_errCode (off : BitVec 14) (w : BusWidth) (dir : BusDir) (s : State) :
    (answerBusError off w dir s).errCode =
      s.errCode := rfl
@[simp] theorem answerBusError_total (off : BitVec 14) (w : BusWidth) (dir : BusDir) (s : State) :
    (answerBusError off w dir s).total =
      s.total := rfl
@[simp] theorem answerBusError_sampleIndex (off : BitVec 14) (w : BusWidth) (dir : BusDir) (s : State) :
    (answerBusError off w dir s).sampleIndex =
      s.sampleIndex := rfl
@[simp] theorem answerBusError_seed (off : BitVec 14) (w : BusWidth) (dir : BusDir) (s : State) :
    (answerBusError off w dir s).seed =
      s.seed := rfl
@[simp] theorem answerBusError_b (off : BitVec 14) (w : BusWidth) (dir : BusDir) (s : State) :
    (answerBusError off w dir s).b =
      s.b := rfl
@[simp] theorem answerBusError_z (off : BitVec 14) (w : BusWidth) (dir : BusDir) (s : State) :
    (answerBusError off w dir s).z =
      s.z := rfl
@[simp] theorem answerBusError_bq (off : BitVec 14) (w : BusWidth) (dir : BusDir) (s : State) :
    (answerBusError off w dir s).bq =
      s.bq := rfl
@[simp] theorem answerBusError_energy (off : BitVec 14) (w : BusWidth) (dir : BusDir) (s : State) :
    (answerBusError off w dir s).energy =
      s.energy := rfl
@[simp] theorem answerBusError_preview (off : BitVec 14) (w : BusWidth) (dir : BusDir) (s : State) :
    (answerBusError off w dir s).preview =
      s.preview := rfl
@[simp] theorem answerBusError_previewCount (off : BitVec 14) (w : BusWidth) (dir : BusDir) (s : State) :
    (answerBusError off w dir s).previewCount =
      s.previewCount := rfl
@[simp] theorem answerBusError_pcmOut (off : BitVec 14) (w : BusWidth) (dir : BusDir) (s : State) :
    (answerBusError off w dir s).pcmOut =
      s.pcmOut := rfl
@[simp] theorem answerBusError_consts (off : BitVec 14) (w : BusWidth) (dir : BusDir) (s : State) :
    (answerBusError off w dir s).consts =
      s.consts := rfl
@[simp] theorem answerBusError_wires (off : BitVec 14) (w : BusWidth) (dir : BusDir) (s : State) :
    (answerBusError off w dir s).wires =
      s.wires := rfl
@[simp] theorem answerBusError_answer (off : BitVec 14) (w : BusWidth) (dir : BusDir) (s : State) :
    (answerBusError off w dir s).answer =
      .busError off w dir := rfl
@[simp] theorem answerBusError_agenda (off : BitVec 14) (w : BusWidth) (dir : BusDir) (s : State) :
    (answerBusError off w dir s).agenda =
      s.agenda := rfl

@[simp] theorem setError_fsm (code : BitVec 4) (s : State) : (setError code s).fsm = .error := rfl
@[simp] theorem setError_tier (code : BitVec 4) (s : State) : (setError code s).tier = s.tier := rfl
@[simp] theorem setError_channels (code : BitVec 4) (s : State) :
    (setError code s).channels =
      s.channels := rfl
@[simp] theorem setError_outPeriods (code : BitVec 4) (s : State) :
    (setError code s).outPeriods =
      s.outPeriods := rfl
@[simp] theorem setError_ie (code : BitVec 4) (s : State) : (setError code s).ie = s.ie := rfl
@[simp] theorem setError_errCode (code : BitVec 4) (s : State) : (setError code s).errCode = code := rfl
@[simp] theorem setError_total (code : BitVec 4) (s : State) : (setError code s).total = s.total := rfl
@[simp] theorem setError_sampleIndex (code : BitVec 4) (s : State) :
    (setError code s).sampleIndex =
      s.sampleIndex := rfl
@[simp] theorem setError_seed (code : BitVec 4) (s : State) : (setError code s).seed = s.seed := rfl
@[simp] theorem setError_b (code : BitVec 4) (s : State) : (setError code s).b = s.b := rfl
@[simp] theorem setError_z (code : BitVec 4) (s : State) : (setError code s).z = s.z := rfl
@[simp] theorem setError_bq (code : BitVec 4) (s : State) : (setError code s).bq = s.bq := rfl
@[simp] theorem setError_energy (code : BitVec 4) (s : State) : (setError code s).energy = s.energy := rfl
@[simp] theorem setError_preview (code : BitVec 4) (s : State) : (setError code s).preview = s.preview := rfl
@[simp] theorem setError_previewCount (code : BitVec 4) (s : State) :
    (setError code s).previewCount =
      s.previewCount := rfl
@[simp] theorem setError_pcmOut (code : BitVec 4) (s : State) : (setError code s).pcmOut = s.pcmOut := rfl
@[simp] theorem setError_consts (code : BitVec 4) (s : State) : (setError code s).consts = s.consts := rfl
@[simp] theorem setError_wires (code : BitVec 4) (s : State) : (setError code s).wires = s.wires := rfl
@[simp] theorem setError_answer (code : BitVec 4) (s : State) : (setError code s).answer = s.answer := rfl
@[simp] theorem setError_agenda (code : BitVec 4) (s : State) : (setError code s).agenda = s.agenda := rfl

@[simp] theorem acceptStart_fsm (s : State) : (acceptStart s).fsm = .busy := rfl
@[simp] theorem acceptStart_tier (s : State) : (acceptStart s).tier = s.tier := rfl
@[simp] theorem acceptStart_channels (s : State) : (acceptStart s).channels = s.channels := rfl
@[simp] theorem acceptStart_outPeriods (s : State) : (acceptStart s).outPeriods = s.outPeriods := rfl
@[simp] theorem acceptStart_ie (s : State) : (acceptStart s).ie = s.ie := rfl
@[simp] theorem acceptStart_errCode (s : State) : (acceptStart s).errCode = 0#4 := rfl
@[simp] theorem acceptStart_total (s : State) : (acceptStart s).total = runTotal s := rfl
@[simp] theorem acceptStart_sampleIndex (s : State) : (acceptStart s).sampleIndex = 0#64 := rfl
@[simp] theorem acceptStart_seed (s : State) : (acceptStart s).seed = 0#20 := rfl
@[simp] theorem acceptStart_b (s : State) : (acceptStart s).b = Vector.replicate 6 posZero := rfl
@[simp] theorem acceptStart_z (s : State) : (acceptStart s).z = posZero := rfl
@[simp] theorem acceptStart_bq (s : State) : (acceptStart s).bq = Cascade.zero := rfl
@[simp] theorem acceptStart_energy (s : State) : (acceptStart s).energy = posZero := rfl
@[simp] theorem acceptStart_preview (s : State) :
    (acceptStart s).preview =
      Vector.replicate 1000 posZero := rfl
@[simp] theorem acceptStart_previewCount (s : State) : (acceptStart s).previewCount = 0#11 := rfl
@[simp] theorem acceptStart_pcmOut (s : State) : (acceptStart s).pcmOut = [] := rfl
@[simp] theorem acceptStart_consts (s : State) : (acceptStart s).consts = s.consts := rfl
@[simp] theorem acceptStart_wires (s : State) : (acceptStart s).wires = s.wires := rfl
@[simp] theorem acceptStart_answer (s : State) : (acceptStart s).answer = s.answer := rfl
@[simp] theorem acceptStart_agenda (s : State) : (acceptStart s).agenda = s.agenda := rfl

@[simp] theorem endRun_fsm (s : State) : (endRun s).fsm = .done := rfl
@[simp] theorem endRun_tier (s : State) : (endRun s).tier = s.tier := rfl
@[simp] theorem endRun_channels (s : State) : (endRun s).channels = s.channels := rfl
@[simp] theorem endRun_outPeriods (s : State) : (endRun s).outPeriods = s.outPeriods := rfl
@[simp] theorem endRun_ie (s : State) : (endRun s).ie = s.ie := rfl
@[simp] theorem endRun_errCode (s : State) : (endRun s).errCode = s.errCode := rfl
@[simp] theorem endRun_total (s : State) : (endRun s).total = s.total := rfl
@[simp] theorem endRun_sampleIndex (s : State) : (endRun s).sampleIndex = s.sampleIndex := rfl
@[simp] theorem endRun_seed (s : State) : (endRun s).seed = s.seed := rfl
@[simp] theorem endRun_b (s : State) : (endRun s).b = s.b := rfl
@[simp] theorem endRun_z (s : State) : (endRun s).z = s.z := rfl
@[simp] theorem endRun_bq (s : State) : (endRun s).bq = s.bq := rfl
@[simp] theorem endRun_energy (s : State) : (endRun s).energy = s.energy := rfl
@[simp] theorem endRun_preview (s : State) : (endRun s).preview = s.preview := rfl
@[simp] theorem endRun_previewCount (s : State) : (endRun s).previewCount = s.previewCount := rfl
@[simp] theorem endRun_pcmOut (s : State) : (endRun s).pcmOut = s.pcmOut := rfl
@[simp] theorem endRun_consts (s : State) : (endRun s).consts = s.consts := rfl
@[simp] theorem endRun_wires (s : State) : (endRun s).wires = s.wires := rfl
@[simp] theorem endRun_answer (s : State) : (endRun s).answer = s.answer := rfl
@[simp] theorem endRun_agenda (s : State) : (endRun s).agenda = s.agenda := rfl

@[simp] theorem emitBytes_fsm (bytes : List Byte) (s : State) : (emitBytes bytes s).fsm = s.fsm := rfl
@[simp] theorem emitBytes_tier (bytes : List Byte) (s : State) : (emitBytes bytes s).tier = s.tier := rfl
@[simp] theorem emitBytes_channels (bytes : List Byte) (s : State) :
    (emitBytes bytes s).channels =
      s.channels := rfl
@[simp] theorem emitBytes_outPeriods (bytes : List Byte) (s : State) :
    (emitBytes bytes s).outPeriods =
      s.outPeriods := rfl
@[simp] theorem emitBytes_ie (bytes : List Byte) (s : State) : (emitBytes bytes s).ie = s.ie := rfl
@[simp] theorem emitBytes_errCode (bytes : List Byte) (s : State) :
    (emitBytes bytes s).errCode =
      s.errCode := rfl
@[simp] theorem emitBytes_total (bytes : List Byte) (s : State) : (emitBytes bytes s).total = s.total := rfl
@[simp] theorem emitBytes_sampleIndex (bytes : List Byte) (s : State) :
    (emitBytes bytes s).sampleIndex =
      s.sampleIndex := rfl
@[simp] theorem emitBytes_seed (bytes : List Byte) (s : State) : (emitBytes bytes s).seed = s.seed := rfl
@[simp] theorem emitBytes_b (bytes : List Byte) (s : State) : (emitBytes bytes s).b = s.b := rfl
@[simp] theorem emitBytes_z (bytes : List Byte) (s : State) : (emitBytes bytes s).z = s.z := rfl
@[simp] theorem emitBytes_bq (bytes : List Byte) (s : State) : (emitBytes bytes s).bq = s.bq := rfl
@[simp] theorem emitBytes_energy (bytes : List Byte) (s : State) :
    (emitBytes bytes s).energy =
      s.energy := rfl
@[simp] theorem emitBytes_preview (bytes : List Byte) (s : State) :
    (emitBytes bytes s).preview =
      s.preview := rfl
@[simp] theorem emitBytes_previewCount (bytes : List Byte) (s : State) :
    (emitBytes bytes s).previewCount =
      s.previewCount := rfl
@[simp] theorem emitBytes_pcmOut (bytes : List Byte) (s : State) :
    (emitBytes bytes s).pcmOut =
      s.pcmOut ++ bytes := rfl
@[simp] theorem emitBytes_consts (bytes : List Byte) (s : State) :
    (emitBytes bytes s).consts =
      s.consts := rfl
@[simp] theorem emitBytes_wires (bytes : List Byte) (s : State) : (emitBytes bytes s).wires = s.wires := rfl
@[simp] theorem emitBytes_answer (bytes : List Byte) (s : State) :
    (emitBytes bytes s).answer =
      s.answer := rfl
@[simp] theorem emitBytes_agenda (bytes : List Byte) (s : State) :
    (emitBytes bytes s).agenda =
      s.agenda := rfl

@[simp] theorem takeSlot_fsm (s : State) : (takeSlot s).fsm = s.fsm := rfl
@[simp] theorem takeSlot_tier (s : State) : (takeSlot s).tier = s.tier := rfl
@[simp] theorem takeSlot_channels (s : State) : (takeSlot s).channels = s.channels := rfl
@[simp] theorem takeSlot_outPeriods (s : State) : (takeSlot s).outPeriods = s.outPeriods := rfl
@[simp] theorem takeSlot_ie (s : State) : (takeSlot s).ie = s.ie := rfl
@[simp] theorem takeSlot_errCode (s : State) : (takeSlot s).errCode = s.errCode := rfl
@[simp] theorem takeSlot_total (s : State) : (takeSlot s).total = s.total := rfl
@[simp] theorem takeSlot_sampleIndex (s : State) : (takeSlot s).sampleIndex = s.sampleIndex := rfl
@[simp] theorem takeSlot_seed (s : State) : (takeSlot s).seed = s.seed := rfl
@[simp] theorem takeSlot_b (s : State) : (takeSlot s).b = s.b := rfl
@[simp] theorem takeSlot_z (s : State) : (takeSlot s).z = s.z := rfl
@[simp] theorem takeSlot_bq (s : State) : (takeSlot s).bq = s.bq := rfl
@[simp] theorem takeSlot_energy (s : State) : (takeSlot s).energy = s.energy := rfl
@[simp] theorem takeSlot_preview (s : State) : (takeSlot s).preview = s.preview := rfl
@[simp] theorem takeSlot_previewCount (s : State) : (takeSlot s).previewCount = s.previewCount := rfl
@[simp] theorem takeSlot_pcmOut (s : State) : (takeSlot s).pcmOut = s.pcmOut := rfl
@[simp] theorem takeSlot_consts (s : State) : (takeSlot s).consts = s.consts := rfl
@[simp] theorem takeSlot_wires (s : State) : (takeSlot s).wires = s.wires := rfl
@[simp] theorem takeSlot_answer (s : State) : (takeSlot s).answer = s.answer := rfl
@[simp] theorem takeSlot_agenda (s : State) : (takeSlot s).agenda = s.agenda.tail := rfl

@[simp] theorem schedulePacket_fsm (p : Packet) (s : State) : (schedulePacket p s).fsm = s.fsm := rfl
@[simp] theorem schedulePacket_tier (p : Packet) (s : State) : (schedulePacket p s).tier = s.tier := rfl
@[simp] theorem schedulePacket_channels (p : Packet) (s : State) :
    (schedulePacket p s).channels =
      s.channels := rfl
@[simp] theorem schedulePacket_outPeriods (p : Packet) (s : State) :
    (schedulePacket p s).outPeriods =
      s.outPeriods := rfl
@[simp] theorem schedulePacket_ie (p : Packet) (s : State) : (schedulePacket p s).ie = s.ie := rfl
@[simp] theorem schedulePacket_errCode (p : Packet) (s : State) :
    (schedulePacket p s).errCode =
      s.errCode := rfl
@[simp] theorem schedulePacket_total (p : Packet) (s : State) : (schedulePacket p s).total = s.total := rfl
@[simp] theorem schedulePacket_sampleIndex (p : Packet) (s : State) :
    (schedulePacket p s).sampleIndex =
      s.sampleIndex := rfl
@[simp] theorem schedulePacket_seed (p : Packet) (s : State) : (schedulePacket p s).seed = s.seed := rfl
@[simp] theorem schedulePacket_b (p : Packet) (s : State) : (schedulePacket p s).b = s.b := rfl
@[simp] theorem schedulePacket_z (p : Packet) (s : State) : (schedulePacket p s).z = s.z := rfl
@[simp] theorem schedulePacket_bq (p : Packet) (s : State) : (schedulePacket p s).bq = s.bq := rfl
@[simp] theorem schedulePacket_energy (p : Packet) (s : State) :
    (schedulePacket p s).energy =
      s.energy := rfl
@[simp] theorem schedulePacket_preview (p : Packet) (s : State) :
    (schedulePacket p s).preview =
      s.preview := rfl
@[simp] theorem schedulePacket_previewCount (p : Packet) (s : State) :
    (schedulePacket p s).previewCount =
      s.previewCount := rfl
@[simp] theorem schedulePacket_pcmOut (p : Packet) (s : State) :
    (schedulePacket p s).pcmOut =
      s.pcmOut := rfl
@[simp] theorem schedulePacket_consts (p : Packet) (s : State) :
    (schedulePacket p s).consts =
      s.consts := rfl
@[simp] theorem schedulePacket_wires (p : Packet) (s : State) : (schedulePacket p s).wires = s.wires := rfl
@[simp] theorem schedulePacket_answer (p : Packet) (s : State) :
    (schedulePacket p s).answer =
      s.answer := rfl
@[simp] theorem schedulePacket_agenda (p : Packet) (s : State) :
    (schedulePacket p s).agenda =
      { hwReset := false, packet := some p } :: s.agenda := rfl

@[simp] theorem prngStepStage_fsm (s : State) : (prngStepStage s).fsm = s.fsm := rfl
@[simp] theorem prngStepStage_tier (s : State) : (prngStepStage s).tier = s.tier := rfl
@[simp] theorem prngStepStage_channels (s : State) : (prngStepStage s).channels = s.channels := rfl
@[simp] theorem prngStepStage_outPeriods (s : State) : (prngStepStage s).outPeriods = s.outPeriods := rfl
@[simp] theorem prngStepStage_ie (s : State) : (prngStepStage s).ie = s.ie := rfl
@[simp] theorem prngStepStage_errCode (s : State) : (prngStepStage s).errCode = s.errCode := rfl
@[simp] theorem prngStepStage_total (s : State) : (prngStepStage s).total = s.total := rfl
@[simp] theorem prngStepStage_sampleIndex (s : State) : (prngStepStage s).sampleIndex = s.sampleIndex := rfl
@[simp] theorem prngStepStage_seed (s : State) :
    (prngStepStage s).seed =
      nextSeed (runConsts s) s.seed := rfl
@[simp] theorem prngStepStage_b (s : State) : (prngStepStage s).b = s.b := rfl
@[simp] theorem prngStepStage_z (s : State) : (prngStepStage s).z = s.z := rfl
@[simp] theorem prngStepStage_bq (s : State) : (prngStepStage s).bq = s.bq := rfl
@[simp] theorem prngStepStage_energy (s : State) : (prngStepStage s).energy = s.energy := rfl
@[simp] theorem prngStepStage_preview (s : State) : (prngStepStage s).preview = s.preview := rfl
@[simp] theorem prngStepStage_previewCount (s : State) :
    (prngStepStage s).previewCount =
      s.previewCount := rfl
@[simp] theorem prngStepStage_pcmOut (s : State) : (prngStepStage s).pcmOut = s.pcmOut := rfl
@[simp] theorem prngStepStage_consts (s : State) : (prngStepStage s).consts = s.consts := rfl
@[simp] theorem prngStepStage_wires (s : State) : (prngStepStage s).wires = s.wires := rfl
@[simp] theorem prngStepStage_answer (s : State) : (prngStepStage s).answer = s.answer := rfl
@[simp] theorem prngStepStage_agenda (s : State) : (prngStepStage s).agenda = s.agenda := rfl

@[simp] theorem prngMapStage_fsm (s : State) : (prngMapStage s).fsm = s.fsm := by rw [prngMapStage]
@[simp] theorem prngMapStage_tier (s : State) : (prngMapStage s).tier = s.tier := by rw [prngMapStage]
@[simp] theorem prngMapStage_channels (s : State) : (prngMapStage s).channels = s.channels := by rw [prngMapStage]
@[simp] theorem prngMapStage_outPeriods (s : State) : (prngMapStage s).outPeriods = s.outPeriods := by rw [prngMapStage]
@[simp] theorem prngMapStage_ie (s : State) : (prngMapStage s).ie = s.ie := by rw [prngMapStage]
@[simp] theorem prngMapStage_errCode (s : State) : (prngMapStage s).errCode = s.errCode := by rw [prngMapStage]
@[simp] theorem prngMapStage_total (s : State) : (prngMapStage s).total = s.total := by rw [prngMapStage]
@[simp] theorem prngMapStage_sampleIndex (s : State) : (prngMapStage s).sampleIndex = s.sampleIndex := by rw [prngMapStage]
@[simp] theorem prngMapStage_seed (s : State) : (prngMapStage s).seed = s.seed := by rw [prngMapStage]
@[simp] theorem prngMapStage_b (s : State) : (prngMapStage s).b = s.b := by rw [prngMapStage]
@[simp] theorem prngMapStage_z (s : State) : (prngMapStage s).z = s.z := by rw [prngMapStage]
@[simp] theorem prngMapStage_bq (s : State) : (prngMapStage s).bq = s.bq := by rw [prngMapStage]
@[simp] theorem prngMapStage_energy (s : State) : (prngMapStage s).energy = s.energy := by rw [prngMapStage]
@[simp] theorem prngMapStage_preview (s : State) : (prngMapStage s).preview = s.preview := by rw [prngMapStage]
@[simp] theorem prngMapStage_previewCount (s : State) : (prngMapStage s).previewCount = s.previewCount := by rw [prngMapStage]
@[simp] theorem prngMapStage_pcmOut (s : State) : (prngMapStage s).pcmOut = s.pcmOut := by rw [prngMapStage]
@[simp] theorem prngMapStage_consts (s : State) : (prngMapStage s).consts = s.consts := by rw [prngMapStage]
@[simp] theorem prngMapStage_wires (s : State) :
    (prngMapStage s).wires =
      { s.wires with x := whiteSample (runConsts s) s.seed } := by rw [prngMapStage]
@[simp] theorem prngMapStage_answer (s : State) : (prngMapStage s).answer = s.answer := by rw [prngMapStage]
@[simp] theorem prngMapStage_agenda (s : State) : (prngMapStage s).agenda = s.agenda := by rw [prngMapStage]

@[simp] theorem pinkStage_fsm (s : State) : (pinkStage s).fsm = s.fsm := rfl
@[simp] theorem pinkStage_tier (s : State) : (pinkStage s).tier = s.tier := rfl
@[simp] theorem pinkStage_channels (s : State) : (pinkStage s).channels = s.channels := rfl
@[simp] theorem pinkStage_outPeriods (s : State) : (pinkStage s).outPeriods = s.outPeriods := rfl
@[simp] theorem pinkStage_ie (s : State) : (pinkStage s).ie = s.ie := rfl
@[simp] theorem pinkStage_errCode (s : State) : (pinkStage s).errCode = s.errCode := rfl
@[simp] theorem pinkStage_total (s : State) : (pinkStage s).total = s.total := rfl
@[simp] theorem pinkStage_sampleIndex (s : State) : (pinkStage s).sampleIndex = s.sampleIndex := rfl
@[simp] theorem pinkStage_seed (s : State) : (pinkStage s).seed = s.seed := rfl
@[simp] theorem pinkStage_b (s : State) : (pinkStage s).b = pinkRegisters s.consts.pink s.b s.wires.x := rfl
@[simp] theorem pinkStage_z (s : State) : (pinkStage s).z = pinkDelay s.consts.pink s.wires.x := rfl
@[simp] theorem pinkStage_bq (s : State) : (pinkStage s).bq = s.bq := rfl
@[simp] theorem pinkStage_energy (s : State) : (pinkStage s).energy = s.energy := rfl
@[simp] theorem pinkStage_preview (s : State) : (pinkStage s).preview = s.preview := rfl
@[simp] theorem pinkStage_previewCount (s : State) : (pinkStage s).previewCount = s.previewCount := rfl
@[simp] theorem pinkStage_pcmOut (s : State) : (pinkStage s).pcmOut = s.pcmOut := rfl
@[simp] theorem pinkStage_consts (s : State) : (pinkStage s).consts = s.consts := rfl
@[simp] theorem pinkStage_wires (s : State) :
    (pinkStage s).wires =
      { s.wires with p := pinkSample s.consts.pink (pinkRegisters s.consts.pink s.b s.wires.x) s.z s.wires.x } := rfl
@[simp] theorem pinkStage_answer (s : State) : (pinkStage s).answer = s.answer := rfl
@[simp] theorem pinkStage_agenda (s : State) : (pinkStage s).agenda = s.agenda := rfl

@[simp] theorem sectionStage_fsm (sec : BqSection) (s : State) : (sectionStage sec s).fsm = s.fsm := rfl
@[simp] theorem sectionStage_tier (sec : BqSection) (s : State) : (sectionStage sec s).tier = s.tier := rfl
@[simp] theorem sectionStage_channels (sec : BqSection) (s : State) :
    (sectionStage sec s).channels =
      s.channels := rfl
@[simp] theorem sectionStage_outPeriods (sec : BqSection) (s : State) :
    (sectionStage sec s).outPeriods =
      s.outPeriods := rfl
@[simp] theorem sectionStage_ie (sec : BqSection) (s : State) : (sectionStage sec s).ie = s.ie := rfl
@[simp] theorem sectionStage_errCode (sec : BqSection) (s : State) :
    (sectionStage sec s).errCode =
      s.errCode := rfl
@[simp] theorem sectionStage_total (sec : BqSection) (s : State) :
    (sectionStage sec s).total =
      s.total := rfl
@[simp] theorem sectionStage_sampleIndex (sec : BqSection) (s : State) :
    (sectionStage sec s).sampleIndex =
      s.sampleIndex := rfl
@[simp] theorem sectionStage_seed (sec : BqSection) (s : State) : (sectionStage sec s).seed = s.seed := rfl
@[simp] theorem sectionStage_b (sec : BqSection) (s : State) : (sectionStage sec s).b = s.b := rfl
@[simp] theorem sectionStage_z (sec : BqSection) (s : State) : (sectionStage sec s).z = s.z := rfl
@[simp] theorem sectionStage_bq (sec : BqSection) (s : State) :
    (sectionStage sec s).bq =
      setDelayLine s.bq (shiftDelay (delayLine s.bq sec) (sectionState (runCoeffs s sec) (delayLine s.bq sec) (sectionInput s.wires sec))) sec := rfl
@[simp] theorem sectionStage_energy (sec : BqSection) (s : State) :
    (sectionStage sec s).energy =
      s.energy := rfl
@[simp] theorem sectionStage_preview (sec : BqSection) (s : State) :
    (sectionStage sec s).preview =
      s.preview := rfl
@[simp] theorem sectionStage_previewCount (sec : BqSection) (s : State) :
    (sectionStage sec s).previewCount =
      s.previewCount := rfl
@[simp] theorem sectionStage_pcmOut (sec : BqSection) (s : State) :
    (sectionStage sec s).pcmOut =
      s.pcmOut := rfl
@[simp] theorem sectionStage_consts (sec : BqSection) (s : State) :
    (sectionStage sec s).consts =
      s.consts := rfl
@[simp] theorem sectionStage_wires (sec : BqSection) (s : State) :
    (sectionStage sec s).wires =
      setSectionOutput s.wires (sectionOutput (runCoeffs s sec) (delayLine s.bq sec) (sectionState (runCoeffs s sec) (delayLine s.bq sec) (sectionInput s.wires sec))) sec := rfl
@[simp] theorem sectionStage_answer (sec : BqSection) (s : State) :
    (sectionStage sec s).answer =
      s.answer := rfl
@[simp] theorem sectionStage_agenda (sec : BqSection) (s : State) :
    (sectionStage sec s).agenda =
      s.agenda := rfl

@[simp] theorem afterReset_fsm (store : ConstStore) (slots : List Slot) :
    (State.afterReset store slots).fsm = .idle := rfl
@[simp] theorem afterReset_tier (store : ConstStore) (slots : List Slot) :
    (State.afterReset store slots).tier = 0#2 := rfl
@[simp] theorem afterReset_channels (store : ConstStore) (slots : List Slot) :
    (State.afterReset store slots).channels = 0#16 := rfl
@[simp] theorem afterReset_outPeriods (store : ConstStore) (slots : List Slot) :
    (State.afterReset store slots).outPeriods = 0#32 := rfl
@[simp] theorem afterReset_ie (store : ConstStore) (slots : List Slot) :
    (State.afterReset store slots).ie = false := rfl
@[simp] theorem afterReset_errCode (store : ConstStore) (slots : List Slot) :
    (State.afterReset store slots).errCode = 0#4 := rfl
@[simp] theorem afterReset_total (store : ConstStore) (slots : List Slot) :
    (State.afterReset store slots).total = 0#64 := rfl
@[simp] theorem afterReset_sampleIndex (store : ConstStore) (slots : List Slot) :
    (State.afterReset store slots).sampleIndex = 0#64 := rfl
@[simp] theorem afterReset_seed (store : ConstStore) (slots : List Slot) :
    (State.afterReset store slots).seed = 0#20 := rfl
@[simp] theorem afterReset_b (store : ConstStore) (slots : List Slot) :
    (State.afterReset store slots).b = Vector.replicate 6 posZero := rfl
@[simp] theorem afterReset_z (store : ConstStore) (slots : List Slot) :
    (State.afterReset store slots).z = posZero := rfl
@[simp] theorem afterReset_bq (store : ConstStore) (slots : List Slot) :
    (State.afterReset store slots).bq = Cascade.zero := rfl
@[simp] theorem afterReset_energy (store : ConstStore) (slots : List Slot) :
    (State.afterReset store slots).energy = posZero := rfl
@[simp] theorem afterReset_preview (store : ConstStore) (slots : List Slot) :
    (State.afterReset store slots).preview = Vector.replicate 1000 posZero := rfl
@[simp] theorem afterReset_previewCount (store : ConstStore) (slots : List Slot) :
    (State.afterReset store slots).previewCount = 0#11 := rfl
@[simp] theorem afterReset_pcmOut (store : ConstStore) (slots : List Slot) :
    (State.afterReset store slots).pcmOut = [] := rfl
@[simp] theorem afterReset_consts (store : ConstStore) (slots : List Slot) :
    (State.afterReset store slots).consts = store := rfl
@[simp] theorem afterReset_wires (store : ConstStore) (slots : List Slot) :
    (State.afterReset store slots).wires = Wires.idle := rfl
@[simp] theorem afterReset_answer (store : ConstStore) (slots : List Slot) :
    (State.afterReset store slots).answer = .none := rfl
@[simp] theorem afterReset_agenda (store : ConstStore) (slots : List Slot) :
    (State.afterReset store slots).agenda = slots := rfl

@[simp] theorem hardwareReset_eq (s : State) : hardwareReset s = State.afterReset s.consts s.agenda := rfl

end Sys2Proof.Machine
end

