-- ==== Sys2Proof/Laws/Ops.lean ====
section
/-! SUPPORT. What each shared operation can do, said once: the provers cite these instead of unfolding the
operations. -/

namespace Sys2Proof.Machine

/-! ## START and the configuration writes -/

/-- START either rejects, with one of the three codes, or accepts a valid configuration (R341). -/
theorem startRun_cases (s : State) :
    (s.tier ≠ 0#2 ∧ s.tier ≠ 1#2 ∧ startRun s = setError badTier s) ∨
    ((s.tier = 0#2 ∨ s.tier = 1#2) ∧ s.channels = 0#16 ∧ startRun s = setError badChannels s) ∨
    ((s.tier = 0#2 ∨ s.tier = 1#2) ∧ s.channels ≠ 0#16 ∧ s.outPeriods = 0#32 ∧
      startRun s = setError badLength s) ∨
    ((s.tier = 0#2 ∨ s.tier = 1#2) ∧ s.channels ≠ 0#16 ∧ s.outPeriods ≠ 0#32 ∧
      startRun s = acceptStart s) := by
  unfold startRun
  split
  · simp_all
  · split
    · simp_all; tauto
    · split
      · simp_all; tauto
      · simp_all; tauto

/-- A configuration write is the update outside a run and nothing within it (R335, R337, R339). -/
theorem configure_of_busy {f : State → State} {s : State} (h : s.fsm = .busy) : configure f s = s := by
  simp [configure, h]

theorem configure_of_not_busy {f : State → State} {s : State} (h : s.fsm ≠ .busy) :
    configure f s = f s := by
  simp [configure, h]

/-- A write to CTRL writes IE, and starts a run where DATA[0] is 1 and none is in progress (R331). -/
theorem writeCtrl_cases (d : Word32) (s : State) :
    ((d.getLsbD 0 = false ∨ s.fsm = .busy) ∧ writeCtrl d s = { s with ie := d.getLsbD 1 }) ∨
    (d.getLsbD 0 = true ∧ s.fsm ≠ .busy ∧ writeCtrl d s = startRun { s with ie := d.getLsbD 1 }) := by
  unfold writeCtrl
  by_cases h0 : d.getLsbD 0 = true
  · by_cases hb : s.fsm = .busy
    · left; simp [hb]
    · right; simp [h0, hb]
  · left
    have h1 : d.getLsbD 0 = false := by simpa using h0
    exact ⟨.inl h1, by simp only [h1]; rfl⟩

/-! ## The limiter -/

/-- A value is finite exactly where it is neither a NaN nor an infinity. -/
theorem isFinite_iff (v : F64) : isFinite v = true ↔ isNaN v = false ∧ isInf v = false := by
  by_cases he : expField v = 2047 <;> by_cases hf : fracField v = 0 <;>
    simp [isFinite, isNaN, isInf, he, hf]

theorem limitStage_of_finite {s : State} (h : isFinite s.wires.y = true) :
    limitStage s = .next { s with wires := { s.wires with s := clipSample s.wires.y } } := by
  obtain ⟨h1, h2⟩ := (isFinite_iff _).1 h
  simp [limitStage, h1, h2]

theorem limitStage_of_not_finite {s : State} (h : ¬ isFinite s.wires.y = true) :
    limitStage s = .fault (.nonFinite s.sampleIndex) := by
  have : isNaN s.wires.y = true ∨ isInf s.wires.y = true := by
    by_contra hc
    simp only [not_or, Bool.not_eq_true] at hc
    exact h ((isFinite_iff _).2 hc)
  rcases this with h | h <;> simp [limitStage, h]

/-! ## The stages of an output sample -/

/-- ENERGY_ACC changes no field but ENERGY (R260). -/
theorem energyStage_eq (s : State) :
    energyStage s = { s with
      energy := (if isOutputSample s then addSquare s.energy s.wires.s else s.energy) } := by
  unfold energyStage; split <;> rfl

/-- PREVIEW_CAP changes no field but PREVIEW and PREVIEW_COUNT (R263). -/
theorem previewStage_eq (s : State) :
    previewStage s = { s with
      preview :=
        (if capturesPreview s then s.preview.setIfInBounds s.previewCount.toNat s.wires.s else s.preview)
      previewCount := (if capturesPreview s then s.previewCount + 1#11 else s.previewCount) } := by
  unfold previewStage; split <;> rfl

/-- PCM_CONV changes no wire but `n` (R290). -/
theorem pcmConvStage_eq (s : State) :
    pcmConvStage s = { s with wires := { s.wires with
      n := (if isOutputSample s then pcmOfSample s.wires.s else s.wires.n) } } := by
  unfold pcmConvStage; split <;> rfl

/-- PCM_EMIT changes no field but PCM_OUT (R291). -/
theorem pcmEmitStage_eq (s : State) :
    pcmEmitStage s = { s with pcmOut :=
      (if isOutputSample s then s.pcmOut ++ frameBytes s.wires.n s.channels.toNat else s.pcmOut) } := by
  unfold pcmEmitStage; split <;> rfl

/-! ## The sample step -/

/-- The end of a sample step writes SAMPLE_INDEX, fsm and the wires, nothing else (R355, R357). -/
theorem advanceSample_eq (s : State) :
    advanceSample s = { s with
      sampleIndex := nextIndex s.sampleIndex
      wires := Wires.idle
      fsm := (if s.sampleIndex.toNat + 1 = s.total.toNat then .done else s.fsm) } := by
  unfold advanceSample; split <;> rfl

theorem nextIndex_toNat {i : BitVec 64} (h : i.toNat + 1 < 2 ^ 64) : (nextIndex i).toNat = i.toNat + 1 := by
  simp only [nextIndex, if_pos h, BitVec.toNat_add, BitVec.toNat_ofNat]
  omega

/-- Everything SAMPLE_STEP can answer (R355, R358; 60_exceptions.md R389). -/
theorem sampleStepOp_cases (s : State) :
    (s.fsm ≠ .busy ∧ sampleStepOp s = .next s) ∨
    (s.fsm = .busy ∧ isFinite (generateStages s).wires.y = true ∧
      sampleStepOp s = .next (finishSample { generateStages s with
        wires := { (generateStages s).wires with s := clipSample (generateStages s).wires.y } })) ∨
    (s.fsm = .busy ∧ ¬ isFinite (generateStages s).wires.y = true ∧
      sampleStepOp s = .fault (.nonFinite (generateStages s).sampleIndex)) := by
  by_cases hb : s.fsm = .busy
  · by_cases hf : isFinite (generateStages s).wires.y = true
    · right; left
      exact ⟨hb, hf, by simp [sampleStepOp, hb, limitStage_of_finite hf]⟩
    · right; right
      exact ⟨hb, hf, by simp [sampleStepOp, hb, limitStage_of_not_finite hf]⟩
  · left
    exact ⟨hb, by simp [sampleStepOp, hb]⟩

/-- The stages up to the band-limited sample write SEED, b, z, the delay lines and the wires, nothing else (R170,
R191, R212). -/
theorem generateStages_frame (s : State) :
    generateStages s = { s with
      seed := nextSeed (runConsts s) s.seed
      b := (generateStages s).b
      z := (generateStages s).z
      bq := (generateStages s).bq
      wires := (generateStages s).wires } := by
  cases h : generateStages s
  have h0 := congrArg State.fsm h
  have h1 := congrArg State.tier h
  have h2 := congrArg State.channels h
  have h3 := congrArg State.outPeriods h
  have h4 := congrArg State.ie h
  have h5 := congrArg State.errCode h
  have h6 := congrArg State.total h
  have h7 := congrArg State.sampleIndex h
  have h8 := congrArg State.energy h
  have h9 := congrArg State.preview h
  have h10 := congrArg State.previewCount h
  have h11 := congrArg State.pcmOut h
  have h12 := congrArg State.consts h
  have h13 := congrArg State.answer h
  have h14 := congrArg State.agenda h
  have h15 := congrArg State.seed h
  simp only [generateStages, sectionStage_seed, pinkStage_seed, prngMapStage_seed, prngStepStage_seed] at h15
  simp [generateStages] at h0 h1 h2 h3 h4 h5 h6 h7 h8 h9 h10 h11 h12 h13 h14
  subst h0 h1 h2 h3 h4 h5 h6 h7 h8 h9 h10 h11 h12 h13 h14 h15
  rfl

/-- Everything a sample step of a BUSY core that goes on does, in terms of the generated values (R355, R356, R357). -/
theorem sampleStepOp_next {s t : State} (hb : s.fsm = .busy) (h : sampleStepOp s = .next t) :
    isFinite (generateStages s).wires.y = true ∧
    t = { s with
      fsm := (if s.sampleIndex.toNat + 1 = s.total.toNat then .done else .busy)
      sampleIndex := nextIndex s.sampleIndex
      seed := nextSeed (runConsts s) s.seed
      b := (generateStages s).b
      z := (generateStages s).z
      bq := (generateStages s).bq
      energy := (if isOutputSample s then addSquare s.energy (clipSample (generateStages s).wires.y)
        else s.energy)
      preview := (if capturesPreview s then
        s.preview.setIfInBounds s.previewCount.toNat (clipSample (generateStages s).wires.y) else s.preview)
      previewCount := (if capturesPreview s then s.previewCount + 1#11 else s.previewCount)
      pcmOut := (if isOutputSample s then
        s.pcmOut ++ frameBytes (pcmOfSample (clipSample (generateStages s).wires.y)) s.channels.toNat
        else s.pcmOut)
      wires := Wires.idle } := by
  rcases sampleStepOp_cases s with ⟨hn, _⟩ | ⟨_, hf, e⟩ | ⟨_, _, e⟩
  · exact absurd hb hn
  · refine ⟨hf, ?_⟩
    rw [h] at e
    injection e with e
    rw [e, finishSample, advanceSample_eq]
    generalize hy : clipSample (generateStages s).wires.y = v
    rw [generateStages_frame s]
    by_cases hs : isOutputSample s = true
    · have hp : periodOf s ≤ s.sampleIndex.toNat := by simpa [isOutputSample] using hs
      simp only [periodOf, runConsts] at hp
      simp [outputStages, energyStage_eq, previewStage_eq, pcmConvStage_eq, pcmEmitStage_eq, isOutputSample,
        capturesPreview, periodOf, runConsts, outputIndex, strideOf, noutOf, hp, hb]
    · have hp : ¬ periodOf s ≤ s.sampleIndex.toNat := by simpa [isOutputSample] using hs
      simp only [periodOf, runConsts] at hp
      simp [isOutputSample, capturesPreview, periodOf, runConsts, hp, hb]
  · rw [h] at e
    cases e

/-! ## The step -/

/-- Everything a step that goes on can be: a hardware reset, or the meaning of the fetched packet's instruction
at the state with the slot taken (R330). -/
theorem step_next_cases {s t : State} (h : step s = .next t) :
    ((nextSlot s).hwReset = true ∧ t = hardwareReset (takeSlot s)) ∨
    ((nextSlot s).hwReset = false ∧ ∃ i, decode (fetchPacket s) = .ok i ∧ exec i (takeSlot s) = .next t) := by
  unfold step at h
  by_cases hr : (nextSlot s).hwReset = true
  · rw [if_pos hr] at h
    left
    exact ⟨hr, by simpa using h.symm⟩
  · rw [if_neg hr] at h
    right
    refine ⟨by simpa using hr, ?_⟩
    split at h
    · exact ⟨_, ‹_›, h⟩
    · cases h

end Sys2Proof.Machine
end

