-- ==== Sys2Proof/Laws/Host.lean ====
section
/-! SUPPORT. What the host's side can do, said once: sequences of instructions, the pseudo-instructions, the
admission of a request. -/

namespace Sys2Proof.Machine

/-- A sequence that goes on performs its first part, then its second from where the first ended. -/
theorem runInstrs_append_of_next {first second : List Instr} {s t : State} (h : runInstrs first s = .next t) :
    runInstrs (first ++ second) s = runInstrs second t := by
  induction first generalizing s with
  | nil => cases h; rfl
  | cons i rest ih =>
    simp only [List.cons_append, runInstrs] at h ⊢
    cases he : exec i s with
    | next u => rw [he] at h; exact ih h
    | fault f => rw [he] at h; cases h
    | refused r => rw [he] at h; cases h

/-- RD64 with no sample step between its reads performs the two accesses of its expansion (R131). -/
theorem rd64Accesses_eq (x : WideReg) :
    rd64Accesses x = [readInstr x.lo] ++ afterTurns 0 [readInstr x.hi] := rfl

/-- Everything the admission of a request can answer: the plan's own rejection, the plan within the header's limits,
or ResourceExhaustion beyond them (R300, R361). -/
theorem requestRun_cases (rate : Nat) (duration : F64) (channels : Nat) :
    (∃ e, planRun rate duration channels = .error e ∧ requestRun rate duration channels = .error e) ∨
    (∃ plan, planRun rate duration channels = .ok plan ∧ headerFits rate channels plan.nout = true ∧
      requestRun rate duration channels = .ok plan) ∨
    (∃ plan, planRun rate duration channels = .ok plan ∧ headerFits rate channels plan.nout = false ∧
      requestRun rate duration channels = .error .resourceExhaustion) := by
  unfold requestRun
  cases planRun rate duration channels with
  | error e => exact .inl ⟨e, rfl, rfl⟩
  | ok plan =>
    cases hf : headerFits rate channels plan.nout with
    | true => exact .inr (.inl ⟨plan, rfl, hf, by simp [hf]⟩)
    | false => exact .inr (.inr ⟨plan, rfl, hf, by simp [hf]⟩)

end Sys2Proof.Machine
end

