-- ==== Sys2Proof/Laws/PerInstr.lean ====
section
/-! SUPPORT. The family EncodedShape, one lemma per constructor: what packet form an instruction is encoded in,
with bit 15 of a descriptor word clear, W telling a write with its data word from a read without one, and a
core operation id of 4 bits (30_encoding.md R110, R125). -/

namespace Sys2Proof

/-- A packet that keeps the form of 30_encoding.md R110 and R125. -/
def Packet.wellShaped : Packet → Prop
  | .mmio32 desc data => desc.getLsbD 15 = false ∧ data.isSome = desc.getLsbD 14
  | .mmioOther _ _ _ => True
  | .coreOp id => id.toNat < 16

/-- The two bits of a descriptor word above the offset. -/
theorem desc_high_bits (w : BitVec 2) (off : BitVec 14) :
    (w ++ off : BitVec 16).getLsbD 15 = w.getLsbD 1 ∧ (w ++ off : BitVec 16).getLsbD 14 = w.getLsbD 0 :=
  ⟨BitVec.getLsbD_append (i := 15), BitVec.getLsbD_append (i := 14)⟩

theorem readDesc_shaped (off : BitVec 14) : Packet.wellShaped (.mmio32 (readDesc off) none) :=
  ⟨(desc_high_bits 0#2 off).1, (desc_high_bits 0#2 off).2.symm⟩

theorem writeDesc_shaped (off : BitVec 14) (d : Word32) :
    Packet.wellShaped (.mmio32 (writeDesc off) (some d)) :=
  ⟨(desc_high_bits 1#2 off).1, (desc_high_bits 1#2 off).2.symm⟩

namespace Laws.EncodedShape

/-- The family's statement: the instruction's packet keeps its form. -/
def Statement (i : Instr) : Prop :=
  Packet.wellShaped (encode i)

theorem rd32Ctrl : Statement .rd32Ctrl := readDesc_shaped _
theorem wr32Ctrl (data : Word32) : Statement (.wr32Ctrl data) := writeDesc_shaped _ _
theorem rd32Status : Statement .rd32Status := readDesc_shaped _
theorem wr32Status (data : Word32) : Statement (.wr32Status data) := writeDesc_shaped _ _
theorem rd32Tier : Statement .rd32Tier := readDesc_shaped _
theorem wr32Tier (data : Word32) : Statement (.wr32Tier data) := writeDesc_shaped _ _
theorem rd32Channels : Statement .rd32Channels := readDesc_shaped _
theorem wr32Channels (data : Word32) : Statement (.wr32Channels data) := writeDesc_shaped _ _
theorem rd32OutPeriods : Statement .rd32OutPeriods := readDesc_shaped _
theorem wr32OutPeriods (data : Word32) : Statement (.wr32OutPeriods data) := writeDesc_shaped _ _
theorem rd32Seed : Statement .rd32Seed := readDesc_shaped _
theorem wr32Seed (data : Word32) : Statement (.wr32Seed data) := writeDesc_shaped _ _
theorem rd32PreviewCount : Statement .rd32PreviewCount := readDesc_shaped _
theorem wr32PreviewCount (data : Word32) : Statement (.wr32PreviewCount data) := writeDesc_shaped _ _
theorem rd32SampleIndexLo : Statement .rd32SampleIndexLo := readDesc_shaped _
theorem wr32SampleIndexLo (data : Word32) : Statement (.wr32SampleIndexLo data) := writeDesc_shaped _ _
theorem rd32SampleIndexHi : Statement .rd32SampleIndexHi := readDesc_shaped _
theorem wr32SampleIndexHi (data : Word32) : Statement (.wr32SampleIndexHi data) := writeDesc_shaped _ _
theorem rd32TotalLo : Statement .rd32TotalLo := readDesc_shaped _
theorem wr32TotalLo (data : Word32) : Statement (.wr32TotalLo data) := writeDesc_shaped _ _
theorem rd32TotalHi : Statement .rd32TotalHi := readDesc_shaped _
theorem wr32TotalHi (data : Word32) : Statement (.wr32TotalHi data) := writeDesc_shaped _ _
theorem rd32EnergyLo : Statement .rd32EnergyLo := readDesc_shaped _
theorem wr32EnergyLo (data : Word32) : Statement (.wr32EnergyLo data) := writeDesc_shaped _ _
theorem rd32EnergyHi : Statement .rd32EnergyHi := readDesc_shaped _
theorem wr32EnergyHi (data : Word32) : Statement (.wr32EnergyHi data) := writeDesc_shaped _ _
theorem rd32PreviewLo (k : BitVec 10) : Statement (.rd32PreviewLo k) := readDesc_shaped _
theorem rd32PreviewHi (k : BitVec 10) : Statement (.rd32PreviewHi k) := readDesc_shaped _
theorem wr32PreviewLo (k : BitVec 10) (data : Word32) : Statement (.wr32PreviewLo k data) := writeDesc_shaped _ _
theorem wr32PreviewHi (k : BitVec 10) (data : Word32) : Statement (.wr32PreviewHi k data) := writeDesc_shaped _ _
theorem rd32Reserved (off : BitVec 14) : Statement (.rd32Reserved off) := readDesc_shaped _
theorem wr32Reserved (off : BitVec 14) (data : Word32) : Statement (.wr32Reserved off data) := writeDesc_shaped _ _
theorem busErrMisaligned (off : BitVec 14) (payload : Payload) : Statement (.busErrMisaligned off payload) := by
  cases payload
  · exact readDesc_shaped _
  · exact writeDesc_shaped _ _
theorem busErrWidth (width : OddWidth) (off : BitVec 14) (dir : BusDir) : Statement (.busErrWidth width off dir) := trivial
theorem prngStep : Statement .prngStep := by simp [Statement, encode, Packet.wellShaped]
theorem prngMap : Statement .prngMap := by simp [Statement, encode, Packet.wellShaped]
theorem pinkStep : Statement .pinkStep := by simp [Statement, encode, Packet.wellShaped]
theorem bqHp1 : Statement .bqHp1 := by simp [Statement, encode, Packet.wellShaped]
theorem bqHp2 : Statement .bqHp2 := by simp [Statement, encode, Packet.wellShaped]
theorem bqLp1 : Statement .bqLp1 := by simp [Statement, encode, Packet.wellShaped]
theorem bqLp2 : Statement .bqLp2 := by simp [Statement, encode, Packet.wellShaped]
theorem limit : Statement .limit := by simp [Statement, encode, Packet.wellShaped]
theorem energyAcc : Statement .energyAcc := by simp [Statement, encode, Packet.wellShaped]
theorem previewCap : Statement .previewCap := by simp [Statement, encode, Packet.wellShaped]
theorem pcmConv : Statement .pcmConv := by simp [Statement, encode, Packet.wellShaped]
theorem pcmEmit : Statement .pcmEmit := by simp [Statement, encode, Packet.wellShaped]
theorem sampleStep : Statement .sampleStep := by simp [Statement, encode, Packet.wellShaped]
theorem runEnd : Statement .runEnd := by simp [Statement, encode, Packet.wellShaped]
theorem reservedCoreOp14 : Statement .reservedCoreOp14 := by simp [Statement, encode, Packet.wellShaped]
theorem reservedCoreOp15 : Statement .reservedCoreOp15 := by simp [Statement, encode, Packet.wellShaped]

end Laws.EncodedShape

end Sys2Proof
end

