-- ==== Sys2Proof/Tests/Slice0.lean ====
section
/-! SUPPORT. The model's own tests: the smoke test of WellFormed, the decoding of every constructor from words
written out from 30_encoding.md, vectors of 95_test_vectors.md, and for every statement of
Certificates/Slice0/Obligations.lean with hypotheses a state and operands that meet them. -/

namespace Sys2Proof.Tests

-- One theorem at a time: a thread for each would pass the memory limit of the check.
set_option Elab.async false

open Sys2Proof Sys2Proof.Machine

/-! ## Small states -/

/-- Coefficients of a section that passes its input on, scaled by `g`. -/
def gain (g : F64) : BqCoeffs := ⟨g, 0#64, 0#64, 0#64, 0#64⟩

/-- A cascade that passes the pink sample on. -/
def through : BqSet := ⟨gain oneF, gain oneF, gain oneF, gain oneF⟩

/-- A pink network of five registers whose sample is the white sample. -/
def plainPink : PinkConsts :=
  ⟨5, Vector.replicate 6 0#64, Vector.replicate 6 0#64, oneF, 0#64, oneF⟩

/-- A store whose band-limited sample is the white sample. -/
def plainStore : ConstStore := ⟨plainPink, through, through⟩

/-- A store whose LP1 doubles and whose LP2 scales by the largest finite value, so that the first sample
overflows. -/
def hugeStore : ConstStore :=
  ⟨plainPink, { through with lp1 := gain 0x4000000000000000#64, lp2 := gain 0x7FEFFFFFFFFFFFFF#64 }, through⟩

/-- A machine after hardware reset. -/
def base : State := State.afterReset plainStore []

/-- The W1 configuration of 95_test_vectors.md: tier 0, mono, one output period. -/
def conf : State := { base with channels := 1#16, outPeriods := 1#32 }

/-- A run just started. -/
def busy : State := acceptStart conf

/-- The same run at output sample 0. -/
def outSt : State := { busy with sampleIndex := 524288#64 }

/-- The same run before its last sample. -/
def last : State :=
  { busy with
    sampleIndex := 1048575#64
    previewCount := 1000#11
    seed := 74043#20
    pcmOut := List.replicate (3 * 1 * 524287) 0#8 }

/-- The same run completed. -/
def done : State :=
  { last with fsm := .done, sampleIndex := 1048576#64, pcmOut := List.replicate (3 * 1 * 524288) 0#8 }

/-- A state with one slot scheduled. -/
def withSlot (s : State) (r : Bool) (p : Option Packet) : State := { s with agenda := [⟨r, p⟩] }

/-- The next state of a result, or the state it came from. -/
def after (s : State) (r : Result) : State :=
  match r with
  | .next t => t
  | .fault _ => s
  | .refused _ => s

/-- Whether a result is a next state. -/
def isNext (r : Result) : Bool :=
  match r with
  | .next _ => true
  | .fault _ => false
  | .refused _ => false

/-- Whether a result is the fault NonFinite. -/
def isFault (r : Result) : Bool :=
  match r with
  | .next _ => false
  | .fault _ => true
  | .refused _ => false

theorem next_of_isNext {r : Result} (h : isNext r = true) : ∃ t, r = .next t := by
  cases r with
  | next t => exact ⟨t, rfl⟩
  | fault f => cases h
  | refused f => cases h

theorem fault_of_isFault {r : Result} (h : isFault r = true) : ∃ f, r = .fault f := by
  cases r with
  | next t => cases h
  | fault f => exact ⟨f, rfl⟩
  | refused f => cases h

/-- Instructions one after the other, a stop leaving the state as it is. -/
def perform (is : List Instr) (s : State) : State := is.foldl (fun t i => after t (exec i t)) s

/-- The wires with the white sample, the band-limited sample and the limited sample at a value. -/
def wiresAt (v : F64) : Wires := { Wires.idle with x := v, p := v, y := v, s := v }

/-! ## WellFormed (30_encoding.md R122, R123, R132) -/

theorem test_wf_refuses_preview_lo_read_1000 : (Instr.rd32PreviewLo 1000#10).wf = false := by decide
theorem test_wf_refuses_preview_hi_read_1000 : (Instr.rd32PreviewHi 1000#10).wf = false := by decide
theorem test_wf_refuses_preview_lo_write_1000 : (Instr.wr32PreviewLo 1000#10 0).wf = false := by decide
theorem test_wf_refuses_preview_hi_write_1023 : (Instr.wr32PreviewHi 1023#10 0).wf = false := by decide
theorem test_wf_refuses_reserved_read_of_register : (Instr.rd32Reserved 0x034#14).wf = false := by decide
theorem test_wf_refuses_reserved_read_of_preview : (Instr.rd32Reserved 0x2F3C#14).wf = false := by decide
theorem test_wf_refuses_reserved_write_misaligned : (Instr.wr32Reserved 0x03A#14 0).wf = false := by decide
theorem test_wf_refuses_aligned_bus_error : (Instr.busErrMisaligned 0x004#14 .read).wf = false := by decide
theorem test_wf_accepts_boundaries :
    ((Instr.rd32PreviewHi 999#10).wf && (Instr.rd32Reserved 0x01C#14).wf && (Instr.rd32Reserved 0x038#14).wf &&
      (Instr.wr32Reserved 0xFFC#14 0).wf && (Instr.wr32Reserved 0x2F40#14 0).wf &&
      (Instr.rd32Reserved 0x3FFC#14).wf) = true := by decide

/-! ## Decode: the words of 30_encoding.md R110, R112, R122, R123, R125, R130 -/

theorem test_decode_register_reads :
    [0x0000, 0x0004, 0x0008, 0x000C, 0x0010, 0x0014, 0x0018].map (decodeTableWord 16) =
      [some .rd32Ctrl, some .rd32Status, some .rd32Tier, some .rd32Channels, some .rd32OutPeriods,
        some .rd32Seed, some .rd32PreviewCount] := by decide
theorem test_decode_wide_reads :
    [0x0020, 0x0024, 0x0028, 0x002C, 0x0030, 0x0034].map (decodeTableWord 16) =
      [some .rd32SampleIndexLo, some .rd32SampleIndexHi, some .rd32TotalLo, some .rd32TotalHi,
        some .rd32EnergyLo, some .rd32EnergyHi] := by decide
theorem test_decode_register_writes :
    [0x14000, 0x24004, 0x54008, 0x10002400C, 0x4010, 0x54014, 0x4018].map (decodeTableWord 48) =
      [some (.wr32Ctrl 1), some (.wr32Status 2), some (.wr32Tier 5), some (.wr32Channels 0x10002),
        some (.wr32OutPeriods 0), some (.wr32Seed 5), some (.wr32PreviewCount 0)] := by decide
theorem test_decode_wide_writes :
    [0x4020, 0x4024, 0x4028, 0x402C, 0x4030, 0x4034].map (decodeTableWord 16) =
      [some (.wr32SampleIndexLo 0), some (.wr32SampleIndexHi 0), some (.wr32TotalLo 0), some (.wr32TotalHi 0),
        some (.wr32EnergyLo 0), some (.wr32EnergyHi 0)] := by decide
theorem test_decode_preview :
    [0x1000, 0x1004, 0x2F38, 0x2F3C, 0x5000, 0x5004, 0x6F38, 0x6F3C].map (decodeTableWord 16) =
      [some (.rd32PreviewLo 0), some (.rd32PreviewHi 0), some (.rd32PreviewLo 999), some (.rd32PreviewHi 999),
        some (.wr32PreviewLo 0 0), some (.wr32PreviewHi 0 0), some (.wr32PreviewLo 999 0),
        some (.wr32PreviewHi 999 0)] := by decide
theorem test_decode_reserved :
    [0x001C, 0x0038, 0x0FFC, 0x2F40, 0x3FFC, 0x401C, 0x7FFC].map (decodeTableWord 16) =
      [some (.rd32Reserved 0x001C), some (.rd32Reserved 0x0038), some (.rd32Reserved 0x0FFC),
        some (.rd32Reserved 0x2F40), some (.rd32Reserved 0x3FFC), some (.wr32Reserved 0x001C 0),
        some (.wr32Reserved 0x3FFC 0)] := by decide
theorem test_decode_bus_errors :
    [decodeTableWord 16 0x0006, decodeTableWord 16 0x7FFF, decodeTableWord 0 0] =
      [some (.busErrMisaligned 0x0006 .read), some (.busErrMisaligned 0x3FFF (.write 0)),
        some (.busErrWidth .w8 0 .read)] := by decide
theorem test_decode_core_ops :
    (List.range 16).map (decodeTableWord 8) =
      [some .prngStep, some .prngMap, some .pinkStep, some .bqHp1, some .bqHp2, some .bqLp1, some .bqLp2,
        some .limit, some .energyAcc, some .previewCap, some .pcmConv, some .pcmEmit, some .sampleStep,
        some .runEnd, some .reservedCoreOp14, some .reservedCoreOp15] := by decide
theorem test_decode_refuses :
    [decode (.mmio32 0x8000#16 none), decode (.mmio32 0x0000#16 (some 0)), decode (.mmio32 0x4000#16 none),
      decode (.coreOp 16#8)] =
      [.error .descriptorBit15, .error .readCarriesData, .error .writeLacksData, .error .coreIdAbove15] := by
  decide

/-! ## Host accesses: V-MMIO, V-ERR, P1 of 95_test_vectors.md -/

theorem test_status_after_start :
    (statusWord (perform [.wr32Ctrl 1] conf), statusWord (perform [.wr32Tier 2, .wr32Ctrl 1] conf),
      statusWord (perform [.wr32Tier 3, .wr32Ctrl 1] base), statusWord (perform [.wr32Tier 1, .wr32Ctrl 1] base),
      statusWord (perform [.wr32OutPeriods 0, .wr32Ctrl 3] conf)) =
      (0x00000001#32, 0x00000014#32, 0x00000014#32, 0x00000024#32, 0x00000134#32) := by decide
theorem test_start_sets_total : (perform [.wr32Ctrl 1] conf).total = 1048576#64 := by decide
theorem test_program_p1 :
    let s := perform [.wr32Ctrl 3, .wr32Channels 1, .wr32Ctrl 2] base
    let t := perform [.wr32Ctrl 0, .wr32OutPeriods 0, .wr32Ctrl 1, .rd32Status] s
    statusWord s = 0x00000124#32 ∧ t.answer = .rdata 0x00000034#32 ∧ t.channels = 1#16 := by decide
theorem test_tier_write_drops_high_bits : (perform [.wr32Tier 5] base).tier = 1#2 := by decide
theorem test_channels_write_drops_high_bits : (perform [.wr32Channels 0x10002] base).channels = 2#16 := by decide
theorem test_config_write_ignored_while_busy :
    let t := perform [.wr32Tier 1, .wr32Channels 9, .wr32OutPeriods 9] busy
    (t.tier, t.channels, t.outPeriods, t.answer) = (0#2, 1#16, 1#32, BusAnswer.written) := by decide
theorem test_bus_error_answers :
    ((perform [.busErrMisaligned 0x006 .read] base).answer, (perform [.busErrWidth .w8 0x004 .read] base).answer,
      (perform [.busErrWidth .w16 0x008 .write] base).answer) =
      (.busError 0x006 .w32 .read, .busError 0x004 .w8 .read, .busError 0x008 .w16 .write) := by decide
theorem test_total_reads_in_halves :
    let s := { base with total := 0x0123456789ABCDEF#64 }
    ((perform [.rd32TotalLo] s).answer, (perform [.rd32TotalHi] s).answer) =
      (.rdata 0x89ABCDEF#32, .rdata 0x01234567#32) := by decide
theorem test_window_byte_is_little_endian :
    let s := { base with total := 0x0123456789ABCDEF#64 }
    (windowByte s 0x028, windowByte s 0x02B, windowByte s 0x02F) = (0xEF#8, 0x89#8, 0x01#8) := by decide

/-! ## The noise source: V-PRNG -/

theorem test_prng_tier0_from_zero :
    ((List.range 8).map fun n => (nextSeed tier0Consts)^[n + 1] 0#20) =
      [52737#20, 43534#20, 66743#20, 390476#20, 428765#20, 452922#20, 115187#20, 96600#20] := by decide
theorem test_prng_tier1_from_zero :
    ((List.range 4).map fun n => (nextSeed tier1Consts)^[n + 1] 0#20) =
      [163841#20, 812558#20, 737975#20, 576844#20] := by decide
theorem test_map_tier0 :
    [0#20, 1#20, 262143#20, 262144#20, 524287#20, 52737#20].map (whiteSample tier0Consts) =
      [0xBFF0000000000000#64, 0xBFEFFFF7FFFF0000#64, 0xBEC0000200000000#64, 0x3EC0000200000000#64,
        0x3FF0000000000000#64, 0xBFE98FF731FEE640#64] := by decide +kernel
theorem test_map_tier1 :
    [0#20, 524287#20, 524288#20, 1048575#20].map (whiteSample tier1Consts) =
      [0xBFF0000000000000#64, 0xBEB0000100000000#64, 0x3EB0000100000000#64, 0x3FF0000000000000#64] := by
  decide +kernel

/-! ## The pink network and the cascade: V-PINK, V-BQ, and the first sample of V-PINK [K] -/

/-- The toy constants of V-PINK. -/
def toyPink : PinkConsts :=
  ⟨2, ⟨#[0x3FE0000000000000#64, 0x3FD0000000000000#64, 0, 0, 0, 0], rfl⟩,
    ⟨#[0x3FE0000000000000#64, 0x3FF0000000000000#64, 0, 0, 0, 0], rfl⟩,
    0x3FE0000000000000#64, 0x3FD0000000000000#64, 0x3FF0000000000000#64⟩

/-- The pink constants of the candidate set K. -/
def kPink : PinkConsts :=
  ⟨6, ⟨#[0x3FEFF6A93F290ABB#64, 0x3FEFC947064ECE9A#64, 0x3FEF020C49BA5E35#64, 0x3FEBBA5E353F7CEE#64,
      0x3FE199999999999A#64, 0xBFE85F06F6944674#64], rfl⟩,
    ⟨#[0x3FAC6CD799AF690F#64, 0x3FB3382C9737BF8A#64, 0x3FC3B16C1E364BEC#64, 0x3FD3DEFEFE784083#64,
      0x3FE10DF1C5AA999C#64, 0xBF914DB59578A2A9#64], rfl⟩,
    0x3FE1288CE703AFB8#64, 0x3FBDAD538AC18F82#64, 0x3FF0000000000000#64⟩

/-- One PINK_STEP: the registers, the delayed tap and the sample. -/
def pinkRun (k : PinkConsts) (s : State) (x : F64) : State :=
  pinkStage { s with consts := { s.consts with pink := k }, wires := { s.wires with x := x } }

theorem test_pink_toy_second_row :
    let s := pinkRun toyPink (pinkRun toyPink base oneF) 0xBFF0000000000000#64
    (s.b[0], s.b[1], s.z, s.wires.p) =
      (0xBFD0000000000000#64, 0xBFE8000000000000#64, 0xBFD0000000000000#64, 0xBFF4000000000000#64) := by
  decide +kernel
theorem test_pink_first_sample_of_k :
    let s := pinkRun kPink base 0xBFE98FF731FEE640#64
    (s.b.toList, s.z, s.wires.p) =
      ([0xBFA6B4EA681112CD#64, 0xBFAEB4B4AA0D34DB#64, 0xBFBF766AE6010564#64, 0xBFCFBF3A75362EDE#64,
        0xBFDB3F3DE23FF772#64, 0x3F8BA51D96293E8B#64], 0xBFB7B4ED11F5ED5A#64, 0xBFF50D901DF43ECD#64) := by
  decide +kernel

/-- The toy coefficients of V-BQ. -/
def toyBq : BqCoeffs :=
  ⟨0x3FE0000000000000#64, 0x3FD0000000000000#64, 0x3FC0000000000000#64, 0xBFE0000000000000#64,
    0x3FD0000000000000#64⟩

/-- One BQ_SECTION: the delay line after, and the output. -/
def bqRun (d : DelayLine) (x : F64) : DelayLine × F64 :=
  (shiftDelay d (sectionState toyBq d x), sectionOutput toyBq d (sectionState toyBq d x))

theorem test_bq_toy_rows :
    bqRun ⟨0, 0⟩ 0x3FF0000000000000#64 = (⟨0x3FF0000000000000#64, 0⟩, 0x3FE0000000000000#64) ∧
    bqRun ⟨0x3FF0000000000000#64, 0⟩ 0 =
      (⟨0x3FE0000000000000#64, 0x3FF0000000000000#64⟩, 0x3FE0000000000000#64) ∧
    bqRun ⟨0xBFC0000000000000#64, 0⟩ 0x4000000000000000#64 =
      (⟨0x3FFF000000000000#64, 0xBFC0000000000000#64⟩, 0x3FEE000000000000#64) ∧
    bqRun ⟨0, 0⟩ 0x8000000000000000#64 = (⟨0, 0⟩, 0) := by decide +kernel

/-- HP1, HP2, LP1 and LP2 of tier 0 of the candidate set K. -/
def kBq : BqSet :=
  ⟨⟨0x3FEFFBE5194C0106#64, 0xBFFFFBE5194C0106#64, 0x3FEFFBE5194C0106#64, 0xBFFFFBE4336F0196#64,
      0x3FEFF7CBFE5200EB#64⟩,
    ⟨0x3FEFF619F6F9884B#64, 0xBFFFF619F6F9884B#64, 0x3FEFF619F6F9884B#64, 0xBFFFF61911462BE3#64,
      0x3FEFEC35B959C966#64⟩,
    ⟨0x3FED5155DBDC3FA0#64, 0x3FFD5155DBDC3FA0#64, 0x3FED5155DBDC3FA0#64, 0x3FFCFE6CB8C819DF#64,
      0x3FEB487DFDE0CAC1#64⟩,
    ⟨0x3FEA8CE7FBF17E81#64, 0x3FFA8CE7FBF17E81#64, 0x3FEA8CE7FBF17E81#64, 0x3FFA41D24A1B83DE#64,
      0x3FE5AFFB5B8EF247#64⟩⟩

theorem test_cascade_first_sample_of_k :
    let s := { base with
      consts := { plainStore with bqTier0 := kBq }, wires := wiresAt 0xBFF50D901DF43ECD#64 }
    let t := perform [.bqHp1, .bqHp2, .bqLp1, .bqLp2] s
    (t.wires.hp1, t.wires.hp2, t.wires.lp1, t.wires.y) =
      (0xBFF50ADCB9238079#64, 0xBFF5045A670DACF9#64, 0xBFF3415D562FD384#64, 0xBFEFF3CACBA76F88#64) := by
  decide +kernel

/-! ## The limiter, the accumulator, the formatter: V-LIM, V-ACC, V-PCM -/

theorem test_limit_rows :
    [ceilingL, 0x3FD57012E19E480E#64, negCeilingL, 0xBFD57012E19E480E#64, 0x3FB999999999999A#64,
      0x8000000000000000#64, 0x0000000000000001#64].map clipSample =
      [ceilingL, ceilingL, negCeilingL, negCeilingL, 0x3FB999999999999A#64, 0x8000000000000000#64,
        0x0000000000000001#64] := by decide +kernel
theorem test_limit_faults_on_infinity :
    isFault (exec .limit { busy with wires := wiresAt 0x7FF0000000000000#64 }) = true := by decide +kernel
theorem test_energy_rows :
    (addSquare 0 0x3FE0000000000000#64, addSquare 0x3FD0000000000000#64 0xBFD0000000000000#64,
      addSquare 0 ceilingL, addSquare 0x3FBCB94298AC6D24#64 negCeilingL,
      addSquare 0x3FD0000000000000#64 0x16687E92154EF7AC#64) =
      (0x3FD0000000000000#64, 0x3FD4000000000000#64, 0x3FBCB94298AC6D24#64, 0x3FCCB94298AC6D24#64,
        0x3FD0000000000000#64) := by decide +kernel
theorem test_energy_only_for_output_samples :
    let w := wiresAt 0x3FE0000000000000#64
    (perform [.energyAcc] { busy with sampleIndex := 524287, wires := w }).energy = 0 ∧
    (perform [.energyAcc] { outSt with wires := w }).energy = 0x3FD0000000000000#64 := by decide +kernel
theorem test_preview_captures_at_stride :
    let t := fun n c => (perform [.previewCap] { outSt with
      sampleIndex := n, previewCount := c, wires := wiresAt ceilingL }).previewCount
    (t 524288 0, t 524812 1, t 524813 2, t 1048288 1000) = (1#11, 2#11, 2#11, 1000#11) := by decide +kernel
theorem test_pcm_rows :
    [ceilingL, negCeilingL, 0x8000000000000000#64, 0x3FF0000000000000#64, 0xBFF0000000000000#64,
      0x4000000000000000#64, 0xC000000000000000#64, 0xBE112E0BE826D695#64, 0x3E80000000200000#64,
      0xBE002629E99525DE#64].map pcmOfSample =
      [0x2AE025C2#32, 0xD51FDA3E#32, 0x00000000#32, 0x7FFFFFFF#32, 0x80000001#32, 0x7FFFFFFF#32, 0x80000000#32,
        0xFFFFFFFE#32, 0x00000100#32, 0xFFFFFFFF#32] := by decide +kernel
theorem test_pcm_frame_of_three_channels :
    frameBytes 0x2AE025C2#32 3 = [0x25#8, 0xE0#8, 0x2A#8, 0x25#8, 0xE0#8, 0x2A#8, 0x25#8, 0xE0#8, 0x2A#8] := by
  decide

/-! ## The sample step: V-STEP -/

theorem test_first_sample_step :
    let t := after busy (exec .sampleStep busy)
    (t.sampleIndex, t.seed, t.pcmOut, t.previewCount, t.fsm) = (1#64, 52737#20, [], 0#11, Fsm.busy) := by
  decide +kernel
theorem test_first_output_step :
    let t := after outSt (exec .sampleStep outSt)
    (t.sampleIndex, t.pcmOut, t.previewCount, t.energy) =
      (524289#64, [0xDA#8, 0x1F#8, 0xD5#8], 1#11, 0x3FBCB94298AC6D24#64) := by decide +kernel
theorem test_last_step_ends_run :
    let t := after last (exec .sampleStep last)
    (t.sampleIndex, t.seed, t.fsm) = (1048576#64, 0#20, Fsm.done) := by decide +kernel
theorem test_step_runs_fetched_word :
    (after base (step (base.withFetchWord 48 0x14008))).tier = 1#2 ∧
    (after base (step (base.withFetchWord 48 0x2400C))).channels = 2#16 := by decide

/-! ## The host's side: V-HDR, V-LEN -/

theorem test_header_w1 :
    headerBytes 48000 1 524288 =
      [0x52, 0x49, 0x46, 0x46, 0x24, 0x00, 0x18, 0x00, 0x57, 0x41, 0x56, 0x45, 0x66, 0x6D, 0x74, 0x20,
        0x10, 0x00, 0x00, 0x00, 0x01, 0x00, 0x01, 0x00, 0x80, 0xBB, 0x00, 0x00, 0x80, 0x32, 0x02, 0x00,
        0x03, 0x00, 0x18, 0x00, 0x64, 0x61, 0x74, 0x61, 0x00, 0x00, 0x18, 0x00] := by decide
theorem test_length_rows :
    ([(48000, 0x3FF0000000000000#64), (48000, 0x3F092A737110E454#64), (48000, 0x404E000000000000#64),
      (96000, 0x4025000000000000#64), (48000, 0x4025D867C3ECE2A5#64), (48000, 0x4035D867C3ECE2A5#64)].map
        fun r => (planRun r.1 r.2 1).toOption.map fun p => p.outPeriods) =
      [some 1, some 1, some 6, some 1, some 1, some 2] := by decide +kernel
theorem test_header_limits_reject_request :
    (planRun 48000 oneF 30000).toOption = some ⟨0, 1⟩ ∧ (requestRun 48000 oneF 30000).toOption = none ∧
      (requestRun 48000 oneF 2730).toOption = some ⟨0, 1⟩ ∧ (requestRun 48000 oneF 2731).toOption = none := by
  decide +kernel
theorem test_rd64_reads_both_halves :
    (rd64Run .total 0 { base with total := 0x0123456789ABCDEF#64 }).map Prod.fst =
      some 0x0123456789ABCDEF#64 := by decide
theorem test_wait_ends_at_done :
    ((waitRun [0, 1] last).map fun r => (after last r).fsm) = some .done ∧ (waitRun [0, 0] last).isNone = true := by
  decide +kernel
theorem test_length_rejections :
    (planRun 44100 oneF 1).toOption = none ∧ (planRun 48000 0 1).toOption = none ∧
      (planRun 48000 0x7FF8000000000000#64 1).toOption = none := by decide +kernel

/-! ## Witnesses: states and operands that meet the hypotheses of the statements, a clause each -/

/-- The run after output sample 0, which was +0.0. -/
def one : State :=
  { outSt with sampleIndex := 524289#64, previewCount := 1#11, pcmOut := [0#8, 0#8, 0#8] }

/-- A run just started whose first sample is not finite. -/
def hugeBusy : State := { busy with consts := hugeStore }

/-- A run of tier 1 just started, at the largest configuration. -/
def wide : State := { base with tier := 1#2, channels := 65535#16, outPeriods := 0xFFFFFFFF#32 }

/-- A configuration of a reserved tier. -/
def badTierSt : State := { conf with tier := 2#2 }

theorem stepsOnly_of_nil {s : State} (h : s.agenda = []) : StepsOnly s := by
  intro slot hs
  rw [h] at hs
  cases hs

theorem busyInv_busy : BusyInv busy :=
  ⟨⟨.inl rfl, by decide, by decide⟩, by decide, by decide, by decide, by decide, by decide⟩

theorem busyInv_outSt : BusyInv outSt :=
  ⟨⟨.inl rfl, by decide, by decide⟩, by decide, by decide, by decide, by decide, by decide⟩

theorem busyInv_one : BusyInv one :=
  ⟨⟨.inl rfl, by decide, by decide⟩, by decide, by decide, by decide, by decide, by decide⟩

theorem busyInv_last : BusyInv last :=
  ⟨⟨.inl rfl, by decide, by decide⟩, by decide, by decide, by decide,
    (List.length_replicate (n := 3 * 1 * 524287) (a := (0#8 : Byte))).trans (by decide), by decide⟩

theorem machineInv_of_busyInv {s : State} (h : BusyInv s) (ha : s.agenda = []) (hb : s.fsm = .busy)
    (hp : s.previewCount.toNat ≤ 1000) : MachineInv s :=
  ⟨stepsOnly_of_nil ha, hp, fun _ => h, fun hd => by rw [hb] at hd; cases hd⟩

theorem machineInv_busy : MachineInv busy := machineInv_of_busyInv busyInv_busy rfl rfl (by decide)
theorem machineInv_one : MachineInv one := machineInv_of_busyInv busyInv_one rfl rfl (by decide)
theorem machineInv_last : MachineInv last := machineInv_of_busyInv busyInv_last rfl rfl (by decide)

theorem machineInv_done : MachineInv done :=
  ⟨stepsOnly_of_nil rfl, by decide, fun h => (by cases h), fun _ =>
    ⟨rfl, rfl, 0#2, 1, 1, .inl rfl, by decide, by decide, by decide,
      List.length_replicate (n := 3 * 1 * 524288) (a := (0#8 : Byte))⟩⟩

theorem previewInStream_one : PreviewInStream one := by
  intro k hk
  have h1 : one.previewCount.toNat = 1 := by decide
  have h0 : k = (0 : Fin 1000) := by
    apply Fin.ext
    have : k.val < 1 := by rw [← h1]; exact hk
    change k.val = 0
    omega
  subst h0
  decide +kernel

theorem witness_DecodeOfEncodeIsIdentity : (Instr.wr32PreviewHi 999#10 5#32).wf = true := by decide

theorem witness_EncodeOfDecodeIsIdentity :
    decode (.mmio32 0x6F3C#16 (some 5#32)) = .ok (.wr32PreviewHi 999#10 5#32) := by decide

theorem witness_DescriptorSelectsOneAccess :
    (0x3FFF#14).toNat % 4 ≠ 0 ∧ (0x3FFC#14).toNat % 4 = 0 ∧
      (Reg.previewHi 999#10).offset = 0x2F3C#14 ∧ (readInstr (.previewHi 999#10)).wf = true := by decide

theorem witness_StepRunsDecodedPacket :
    (withSlot base false (some (.coreOp 13#8))).agenda = { hwReset := false, packet := some (.coreOp 13#8) } :: [] ∧
      decode (.coreOp 13#8) = .ok .runEnd ∧ decodeTableWord 16 0x2F3C = some (.rd32PreviewHi 999#10) ∧
      decode (.coreOp 16#8) = .error .coreIdAbove15 := by decide

theorem witness_CoreTurnRunsSampleStep :
    busy.agenda = [] ∧ (withSlot busy false none).agenda = { hwReset := false, packet := none } :: [] := by decide

theorem witness_HardwareResetSetsEveryElement :
    (withSlot last true (some (.coreOp 16#8))).agenda =
      { hwReset := true, packet := some (.coreOp 16#8) } :: [] := by decide

theorem witness_ReservedSpaceReadsZeroIgnoresWrites :
    ((0xFFC#14).toNat % 4 = 0 ∧ 0x038 ≤ (0xFFC#14).toNat ∧ (0xFFC#14).toNat ≤ 0xFFC) ∧
      ((0x01C#14).toNat % 4 = 0 ∧ (0x01C#14).toNat = 0x01C) ∧ 0x2F40 ≤ (0x2F40#14).toNat := by decide

theorem witness_ReadsHaveNoSideEffect :
    Reg.previewHi 1023#10 ∉ [Reg.ctrl, .tier, .channels, .outPeriods] ∧
      Reg.status ∉ [Reg.ctrl, .tier, .channels, .outPeriods] := by decide

theorem witness_RefusedAccessesAnswerBusError : (0x3FFE#14).toNat % 4 ≠ 0 := by decide

theorem witness_PreviewEntriesReadInHalves : (999#10).toNat < 1000 ∧ (0#10).toNat < 1000 := by decide

theorem witness_StatusAndCtrlReadTheirBits : 9 ≤ 31 ∧ (0 : Nat) ≠ 1 := by decide

theorem witness_WindowIsLittleEndian : (0x3FFC#14).toNat % 4 = 0 ∧ 3 < 4 := by decide

theorem witness_ReadOnlyRegistersIgnoreWrites :
    Instr.wr32PreviewHi 1023#10 7#32 ∈ [Instr.wr32Status 7#32, .wr32Seed 7#32, .wr32PreviewCount 7#32,
      .wr32SampleIndexLo 7#32, .wr32SampleIndexHi 7#32, .wr32TotalLo 7#32, .wr32TotalHi 7#32, .wr32EnergyLo 7#32,
      .wr32EnergyHi 7#32, .wr32PreviewLo 1023#10 7#32, .wr32PreviewHi 1023#10 7#32] := by decide

theorem witness_ConfigWritesStoreUnlessBusy : busy.fsm = .busy ∧ done.fsm ≠ .busy := by decide

theorem witness_CtrlWriteWithoutStartSetsIe :
    ((0x2#32).getLsbD 0 = false ∨ conf.fsm = .busy) ∧ ((0x1#32).getLsbD 0 = false ∨ busy.fsm = .busy) := by decide

theorem witness_RejectedStartSetsErrorOnly :
    (0x3#32).getLsbD 0 = true ∧ badTierSt.fsm ≠ .busy ∧ 2 ≤ badTierSt.tier.toNat ∧
      (base.tier.toNat < 2 ∧ base.channels = 0#16) ∧
      ({ conf with outPeriods := 0#32 } : State).outPeriods = 0#32 ∧ conf.channels ≠ 0#16 ∧
      conf.tier.toNat < 2 := by decide

theorem witness_AcceptedStartBeginsRun :
    (0x1#32).getLsbD 0 = true ∧ (conf.fsm ≠ .busy ∧ HasPeriod conf 524288 ∧ conf.channels ≠ 0#16 ∧
      conf.outPeriods ≠ 0#32) ∧ (wide.fsm ≠ .busy ∧ HasPeriod wide 1048576 ∧ wide.channels ≠ 0#16 ∧
      wide.outPeriods ≠ 0#32) :=
  ⟨by decide, ⟨by decide, .inl ⟨rfl, rfl⟩, by decide, by decide⟩,
    ⟨by decide, .inr ⟨rfl, rfl⟩, by decide, by decide⟩⟩

/-- The exact sum of the largest finite value and 2^970 is the first that rounds to an infinity. -/
theorem witness_SumsAreCorrectlyRounded_overflow :
    isFinite 0x7FEFFFFFFFFFFFFF#64 = true ∧ isFinite 0x7C90000000000000#64 = true ∧
      (scaled 0x7FEFFFFFFFFFFFFF#64 + scaled 0x7C90000000000000#64).natAbs = (2 ^ 54 - 1) * 2 ^ 2044 := by
  decide +kernel

theorem witness_SumsAreCorrectlyRounded_finite :
    isFinite oneF = true ∧ isFinite 0x3CA0000000000000#64 = true ∧ scaled oneF - scaled 0x3CA0000000000000#64 ≠ 0 ∧
      (scaled oneF - scaled 0x3CA0000000000000#64).natAbs < (2 ^ 54 - 1) * 2 ^ 2044 := by decide +kernel

theorem witness_ExactZeroSumsHaveIeeeSign :
    isFinite oneF = true ∧ isFinite 0xBFF0000000000000#64 = true ∧
      scaled oneF + scaled 0xBFF0000000000000#64 = 0 ∧ scaled oneF - scaled oneF = 0 ∧
      scaled 0x8000000000000000#64 + scaled 0x8000000000000000#64 = 0 := by decide +kernel

theorem witness_ProductsAreCorrectlyRounded :
    isFinite 0x7FEFFFFFFFFFFFFF#64 = true ∧ isFinite 0x4000000000000000#64 = true ∧
      (2 ^ 54 - 1) * 2 ^ 2044 * unitScale ≤
        (scaled 0x7FEFFFFFFFFFFFFF#64 * scaled 0x4000000000000000#64).natAbs ∧
      (scaled 0x7FEFFFFFFFFFFFFF#64 * scaled oneF).natAbs < (2 ^ 54 - 1) * 2 ^ 2044 * unitScale := by
  decide +kernel

theorem witness_PrngStepIsLcg :
    busy.tier = 0#2 ∧ wide.tier = 1#2 ∧ HasPeriod wide 1048576 ∧
      ({ wide with seed := 1048575#20 } : State).seed.toNat < 1048576 ∧
      ∃ t, exec .prngStep { wide with seed := 1048575#20 } = .next t :=
  ⟨rfl, rfl, .inr ⟨rfl, rfl⟩, by decide, _, rfl⟩

theorem witness_PrngMapIsTwoRoundedOperations : busy.tier = 0#2 ∧ wide.tier = 1#2 := by decide

theorem witness_WhiteSampleReachesBoundsOncePerPeriod :
    tier1Consts ∈ [tier0Consts, tier1Consts] ∧ (1048575#20).toNat < tier1Consts.period ∧
      tier0Consts ∈ [tier0Consts, tier1Consts] ∧ (524287#20).toNat < tier0Consts.period := by decide

theorem witness_WhiteSampleReachesBoundsOncePerPeriod_steps :
    (0 < 1 ∧ 1 ≤ 524288) ∧ (0 < 524288 ∧ 475003 ≤ 524288) ∧ (0 < 335227 ∧ 335227 ≤ 1048576) := by decide

theorem witness_SeedSequenceHasFullPeriod :
    tier0Consts ∈ [tier0Consts, tier1Consts] ∧ (524287#20).toNat < tier0Consts.period := by decide

theorem witness_PinkStepUpdatesAndSums :
    base.consts.pink.np.val = 5 ∧
      ({ base with consts := { plainStore with pink := kPink } } : State).consts.pink.np.val = 6 := by decide

theorem witness_SectionsAreDirectFormTwo :
    ((busy.tier = 0#2 → through = busy.consts.bqTier0) ∧ (busy.tier = 1#2 → through = busy.consts.bqTier1) ∧
      (2 ≤ busy.tier.toNat → through = Config.reservedBq busy.tier)) ∧
    ((badTierSt.tier = 0#2 → Config.reservedBq 2#2 = badTierSt.consts.bqTier0) ∧
      (badTierSt.tier = 1#2 → Config.reservedBq 2#2 = badTierSt.consts.bqTier1) ∧
      (2 ≤ badTierSt.tier.toNat → Config.reservedBq 2#2 = Config.reservedBq badTierSt.tier)) :=
  ⟨⟨fun _ => rfl, fun _ => rfl, fun h => absurd h (by decide)⟩,
    ⟨fun h => absurd h (by decide), fun h => absurd h (by decide), fun _ => rfl⟩⟩

theorem witness_LimitClipsToCeiling :
    isFinite (wiresAt 0x3FD57012E19E480E#64).y = true ∧
      scaled 0x3FD57012E19E480D#64 < scaled (wiresAt 0x3FD57012E19E480E#64).y ∧
      scaled (wiresAt 0xBFD57012E19E480E#64).y < scaled 0xBFD57012E19E480D#64 ∧
      scaled 0xBFD57012E19E480D#64 ≤ scaled (wiresAt 0x3FD57012E19E480D#64).y ∧
      scaled (wiresAt 0x3FD57012E19E480D#64).y ≤ scaled 0x3FD57012E19E480D#64 := by decide +kernel

theorem witness_NonFiniteSampleFaults_limit :
    isNaN (wiresAt 0x7FF0000000000001#64).y = true ∧ isInf (wiresAt 0xFFF0000000000000#64).y = true := by decide

theorem witness_NonFiniteSampleFaults_step : hugeBusy.fsm = .busy ∧ ¬ NextSampleFinite hugeBusy := by
  constructor
  · rfl
  · unfold NextSampleFinite
    decide +kernel

theorem witness_EnergyAccAddsSquareOfOutputSample :
    HasPeriod busy 524288 ∧ ({ busy with sampleIndex := 524287#64 } : State).sampleIndex.toNat < 524288 ∧
      524288 ≤ outSt.sampleIndex.toNat :=
  ⟨.inl ⟨rfl, rfl⟩, by decide, by decide⟩

theorem witness_PreviewCapStoresAtStride :
    HasPeriod outSt 524288 ∧ 524288 ≤ outSt.sampleIndex.toNat ∧ 524288 ≤ outSt.total.toNat ∧
      524 = (outSt.total.toNat - 524288) / 1000 ∧ (outSt.sampleIndex.toNat - 524288) % 524 = 0 ∧
      outSt.previewCount.toNat < 1000 ∧ (one.sampleIndex.toNat - 524288) % 524 ≠ 0 ∧
      1000 ≤ last.previewCount.toNat :=
  ⟨.inl ⟨rfl, rfl⟩, by decide, by decide, by decide, by decide, by decide, by decide, by decide⟩

theorem witness_CaptureIndicesAreOutputSamples : BusyInv last := busyInv_last

theorem witness_PcmConvTruncatesAndSaturates :
    HasPeriod outSt 524288 ∧ 524288 ≤ outSt.sampleIndex.toNat ∧ busy.sampleIndex.toNat < 524288 ∧
      isFinite (wiresAt 0xC000000000000000#64).s = true :=
  ⟨.inl ⟨rfl, rfl⟩, by decide, by decide, by decide⟩

theorem witness_LimitedSampleNeverSaturates : IsLimited ceilingL ∧ IsLimited negCeilingL := by
  unfold IsLimited
  decide +kernel

theorem witness_PcmEmitAppendsOneFrame :
    HasPeriod outSt 524288 ∧ 524288 ≤ outSt.sampleIndex.toNat ∧ busy.sampleIndex.toNat < 524288 :=
  ⟨.inl ⟨rfl, rfl⟩, by decide, by decide⟩

theorem witness_FrameHoldsFloorOfSample : 2 < 3 ∧ 65534 < 65535 := by decide

theorem witness_SampleStepIsItsStagesInOrder_quiescent : done.fsm ≠ .busy ∧ base.fsm ≠ .busy := by decide

theorem witness_SampleStepIsItsStagesInOrder : outSt.fsm = .busy := rfl

theorem witness_SampleStepCompletes_warm_up :
    busy.fsm = .busy ∧ NextSampleFinite busy ∧ busy.sampleIndex.toNat + 1 < 2 ^ 64 ∧
      busy.sampleIndex.toNat < periodOf busy := by
  unfold NextSampleFinite
  decide +kernel

theorem witness_SampleStepCompletes_last :
    last.fsm = .busy ∧ NextSampleFinite last ∧ last.sampleIndex.toNat + 1 < 2 ^ 64 ∧
      periodOf last ≤ last.sampleIndex.toNat ∧ last.sampleIndex.toNat + 1 = last.total.toNat := by
  unfold NextSampleFinite
  decide +kernel

theorem witness_NoStepWritesConstantStore :
    (∃ t, step (withSlot last true none) = .next t) ∧ ∃ t, step outSt = .next t :=
  ⟨next_of_isNext (by decide +kernel), next_of_isNext (by decide +kernel)⟩

theorem witness_ConfigurationFrozenWhileBusy :
    busy.fsm = .busy ∧ (nextSlot (busy.withFetchWord 48 0x14008)).hwReset = false ∧
      ∃ t, step (busy.withFetchWord 48 0x14008) = .next t :=
  ⟨rfl, rfl, next_of_isNext (by decide +kernel)⟩

theorem witness_HostCannotDisturbRun : busy.fsm = .busy ∧ isHostAccess (.wr32Ctrl 3#32) = true := by decide

theorem witness_OnlyStartAndRunEndChangeFsm_start :
    ∃ t, exec (.wr32Ctrl 1#32) conf = .next t ∧ t.fsm ≠ conf.fsm :=
  ⟨_, rfl, by decide⟩

theorem witness_OnlyStartAndRunEndChangeFsm_last :
    (∃ t, exec .sampleStep last = .next t) ∧ (after last (exec .sampleStep last)).fsm ≠ last.fsm :=
  ⟨next_of_isNext (by decide +kernel), by decide +kernel⟩

theorem witness_OnlyStartAndRunEndChangeFsm_run_end :
    ∃ t, exec .runEnd busy = .next t ∧ t.fsm ≠ busy.fsm :=
  ⟨_, rfl, by decide⟩

theorem witness_ResultsHeldOutsideRun :
    done.fsm ≠ .busy ∧ isHostAccess (.wr32Tier 2#32) = true ∧
      ∃ t, exec (.wr32Tier 2#32) done = .next t ∧ t.fsm ≠ .busy :=
  ⟨by decide, by decide, _, rfl, by decide⟩

theorem witness_CoreOpsLeaveHostState :
    isHostAccess .sampleStep = false ∧ ∃ t, exec .sampleStep outSt = .next t :=
  ⟨by decide, next_of_isNext (by decide +kernel)⟩

theorem witness_StepsStopOnlyWithNonFinite : StepsOnly one ∧ StepsOnly hugeBusy :=
  ⟨stepsOnly_of_nil rfl, stepsOnly_of_nil rfl⟩

theorem witness_MachineInvariantIsKept_busy : MachineInv one ∧ ∃ t, step one = .next t :=
  ⟨machineInv_one, next_of_isNext (by decide +kernel)⟩

theorem witness_MachineInvariantIsKept_last : MachineInv last ∧ ∃ t, step last = .next t :=
  ⟨machineInv_last, next_of_isNext (by decide +kernel)⟩

theorem witness_MachineInvariantIsKept_done : MachineInv done ∧ ∃ t, step done = .next t :=
  ⟨machineInv_done, next_of_isNext (by decide +kernel)⟩

theorem witness_SeedFollowsSampleIndex :
    MachineInv busy ∧ SeedInv busy ∧ ∃ t, step busy = .next t :=
  ⟨machineInv_busy, ⟨fun _ => rfl, fun h => by cases h⟩, next_of_isNext (by decide +kernel)⟩

theorem witness_ResultsStayWithinBounds :
    StepsOnly outSt ∧ PreviewLimited outSt ∧ EnergyNonneg outSt ∧ ∃ t, step outSt = .next t := by
  refine ⟨stepsOnly_of_nil rfl, fun k => ?_, ⟨by decide, by decide⟩, next_of_isNext (by decide +kernel)⟩
  have h : outSt.preview[k] = posZero := Vector.getElem_replicate k.isLt
  rw [h]
  unfold IsLimited
  decide +kernel

theorem witness_ResultsStayWithinBounds_tail :
    PreviewTailZero one ∧ one.previewCount.toNat ≤ (1 : Fin 1000).val ∧ ∃ t, step one = .next t :=
  ⟨fun k _ => Vector.getElem_replicate k.isLt, by decide, next_of_isNext (by decide +kernel)⟩

theorem witness_PreviewEntriesStandInStream_start :
    conf.fsm ≠ .busy ∧ ∃ t, exec (.wr32Ctrl 1#32) conf = .next t ∧ t.fsm = .busy :=
  ⟨by decide, _, rfl, by decide⟩

theorem witness_PreviewEntriesStandInStream_step :
    MachineInv one ∧ one.fsm = .busy ∧ PreviewInStream one ∧ ∃ t, exec .sampleStep one = .next t :=
  ⟨machineInv_one, rfl, previewInStream_one, next_of_isNext (by decide +kernel)⟩

theorem witness_RunEndsAfterTotalSteps_before :
    MachineInv busy ∧ busy.fsm = .busy ∧
      (∀ i ∈ [Instr.wr32Ctrl 3#32, .sampleStep, .rd32Seed], isMachineStep i = true) ∧
      (∃ t, runInstrs [Instr.wr32Ctrl 3#32, .sampleStep, .rd32Seed] busy = .next t) ∧
      busy.sampleIndex.toNat + [Instr.wr32Ctrl 3#32, .sampleStep, .rd32Seed].count .sampleStep <
        busy.total.toNat :=
  ⟨machineInv_busy, rfl, by decide, next_of_isNext (by decide +kernel), by decide⟩

theorem witness_RunEndsAfterTotalSteps_last :
    MachineInv last ∧ last.fsm = .busy ∧ runInstrs [] last = .next last ∧
      (∃ u, exec .sampleStep last = .next u) ∧
      last.sampleIndex.toNat + ([] : List Instr).count .sampleStep + 1 = last.total.toNat :=
  ⟨machineInv_last, rfl, rfl, next_of_isNext (by decide +kernel), by decide⟩

theorem witness_ObservationDependsOnConfigurationOnly :
    (ConfigValid conf ∧ done.tier = conf.tier ∧ done.channels = conf.channels ∧
      done.outPeriods = conf.outPeriods ∧ done.consts = conf.consts) ∧
    ((∀ i ∈ [Instr.sampleStep] ++ [.wr32Ctrl 3#32, .sampleStep, .rd32Seed], isMachineStep i = true) ∧
      [Instr.wr32Ctrl 3#32, .sampleStep, .rd32Seed].count .sampleStep = [Instr.sampleStep].count .sampleStep ∧
      [Instr.sampleStep].count .sampleStep < (runTotal conf).toNat) ∧
    (∃ t, runInstrs [.sampleStep] (acceptStart conf) = .next t) ∧
    (∃ t', runInstrs [.wr32Ctrl 3#32, .sampleStep, .rd32Seed] (acceptStart done) = .next t') ∧
    ∃ u, exec .sampleStep (after busy (runInstrs [.sampleStep] (acceptStart conf))) = .next u :=
  ⟨⟨⟨.inl rfl, by decide, by decide⟩, rfl, rfl, rfl, rfl⟩, ⟨by decide, by decide, by decide⟩,
    next_of_isNext (by decide +kernel), next_of_isNext (by decide +kernel), next_of_isNext (by decide +kernel)⟩

theorem witness_HeaderFieldsReadBack :
    headerFits 48000 1 524288 = true ∧ headerFits 48000 21845 1 = true ∧ 48000 < 2 ^ 32 := by decide

theorem ok_of_isSome {r : Except HostError RunPlan} (h : r.toOption.isSome = true) : ∃ plan, r = .ok plan := by
  cases r with
  | ok plan => exact ⟨plan, rfl⟩
  | error e => cases h

theorem witness_PlannedRunIsAccepted :
    (∃ plan, planRun 48000 oneF 1 = .ok plan) ∧ (∃ plan, planRun 96000 oneF 65535 = .ok plan) ∧
      (∃ plan, requestRun 48000 oneF 2730 = .ok plan) ∧ 1 < 65536 ∧ 65535 < 65536 ∧ done.fsm ≠ .busy :=
  ⟨ok_of_isSome (by decide +kernel), ok_of_isSome (by decide +kernel), ok_of_isSome (by decide +kernel),
    by decide, by decide, by decide⟩

/-- The plan of one second at 48000 Hz has OUT_PERIODS = 1: 2730 channels fit the header, 2731 break ChunkSize,
21846 break BlockAlign and 29827 ByteRate. -/
theorem witness_PlannedRunIsAccepted_limits :
    ((planRun 48000 oneF 2730).toOption = some ⟨0, 1⟩ ∧ (planRun 48000 oneF 2731).toOption = some ⟨0, 1⟩ ∧
      (planRun 48000 oneF 21846).toOption = some ⟨0, 1⟩ ∧ (planRun 48000 oneF 29827).toOption = some ⟨0, 1⟩) ∧
    (3 * 2730 ≤ 65535 ∧ 48000 * 3 * 2730 ≤ 2 ^ 32 - 1 ∧ 36 + 3 * 2730 * (1 * 524288) ≤ 2 ^ 32 - 1) ∧
    2 ^ 32 - 1 < 36 + 3 * 2731 * (1 * 524288) ∧ 65535 < 3 * 21846 ∧ 2 ^ 32 - 1 < 48000 * 3 * 29827 := by
  decide +kernel

theorem witness_PseudoInstructionsReadAndWait_polls :
    done.fsm = .done ∧ busy.fsm = .busy ∧ base.fsm = .idle ∧
      (perform [.wr32Ctrl 1#32] base).fsm = .error := by decide

theorem witness_PseudoInstructionsReadAndWait_run_end :
    MachineInv last ∧ last.fsm = .busy ∧ last.total.toNat ≤ last.sampleIndex.toNat + 1 ∧
      ∃ t, runInstrs (afterTurns 1 []) last = .next t :=
  ⟨machineInv_last, rfl, by decide, next_of_isNext (by decide +kernel)⟩

end Sys2Proof.Tests
end

/-! PROOFS, 00_scope.md. Binary64 rounding: sums, differences and products of finite values are the exact result
rounded to nearest, ties to even (R16, R17).

`packBits` and `fneg` come first, field by field; then `roundQuotient`, which is correct rounding on an even grid;
then `roundBits`, which is that rounding on the grid of the result's binade. Every binary64 magnitude either
stands on that grid or lies below the whole binade, so the nearest grid point is the nearest value. -/

namespace Sys2Proof.Machine

/-! ## The fields of packed and negated patterns -/

section Fields

variable {neg : Bool} {bits : Nat}

theorem packBits_toNat (h : bits < 2 ^ 63) :
    (packBits neg bits).toNat = (if neg then 2 ^ 63 else 0) + bits := by
  rw [packBits, BitVec.toNat_ofNat]
  split <;> omega

theorem signBit_packBits (h : bits < 2 ^ 63) : signBit (packBits neg bits) = neg := by
  rw [signBit, BitVec.msb_eq_decide, packBits_toNat h]
  cases neg
  · simpa using h
  · simp

theorem expField_packBits (h : bits < 2 ^ 63) : expField (packBits neg bits) = bits / 2 ^ 52 := by
  rw [expField, packBits_toNat h]
  split <;> omega

theorem fracField_packBits (h : bits < 2 ^ 63) : fracField (packBits neg bits) = bits % 2 ^ 52 := by
  rw [fracField, packBits_toNat h]
  split <;> omega

theorem isFinite_packBits (h : bits < infBits) : isFinite (packBits neg bits) = true := by
  unfold infBits at h
  simp only [isFinite, expField_packBits (show bits < 2 ^ 63 by omega), bne_iff_ne]
  omega

theorem isInf_packBits_infBits : isInf (packBits neg infBits) = true := by
  have h : infBits < 2 ^ 63 := by decide
  rw [isInf, expField_packBits h, fracField_packBits h]
  decide

/-- The pattern of bits `e * 2^52 + sig` holds the significand `sig` at the exponent `e`, also where the
significand is a carry to 2^53. -/
theorem magnitude_packBits {e sig : Nat} (hlow : 0 < e → 2 ^ 52 ≤ sig) (hhigh : sig ≤ 2 ^ 53)
    (h : e * 2 ^ 52 + sig < 2 ^ 63) : magnitude (packBits neg (e * 2 ^ 52 + sig)) = sig * 2 ^ e := by
  rw [magnitude, expField_packBits h, fracField_packBits h]
  rcases Nat.lt_or_ge sig (2 ^ 52) with hs | hs
  · obtain rfl : e = 0 := by omega
    have hz : (0 * 2 ^ 52 + sig) / 2 ^ 52 = 0 := by omega
    rw [if_pos hz]
    omega
  · rw [if_neg (by omega)]
    rcases Nat.lt_or_ge sig (2 ^ 53) with hc | hc
    · have hx : (e * 2 ^ 52 + sig) / 2 ^ 52 - 1 = e := by omega
      have hf : 2 ^ 52 + (e * 2 ^ 52 + sig) % 2 ^ 52 = sig := by omega
      rw [hx, hf]
    · obtain rfl : sig = 2 ^ 53 := by omega
      have hx : (e * 2 ^ 52 + 2 ^ 53) / 2 ^ 52 - 1 = e + 1 := by omega
      have hf : (e * 2 ^ 52 + 2 ^ 53) % 2 ^ 52 = 0 := by omega
      rw [hx, hf, Nat.add_zero, pow_succ 2 e]
      ring

end Fields

theorem natAbs_scaled (v : F64) : (scaled v).natAbs = magnitude v := by
  unfold scaled; split <;> simp

/-- Every binary64 magnitude is a multiple of 2^e or lies below 2^(52 + e), the least magnitude of exponent `e`. -/
theorem magnitude_dvd_or_lt (v : F64) (e : Nat) :
    2 ^ e ∣ magnitude v ∨ magnitude v < 2 ^ 52 * 2 ^ e := by
  have hf : fracField v < 2 ^ 52 := Nat.mod_lt _ (by decide)
  have he : 1 ≤ 2 ^ e := Nat.one_le_two_pow
  unfold magnitude
  split
  · exact .inr (by omega)
  · rcases Nat.lt_or_ge (expField v - 1) e with hlt | hle
    · right
      calc (2 ^ 52 + fracField v) * 2 ^ (expField v - 1)
          < 2 ^ 53 * 2 ^ (expField v - 1) := Nat.mul_lt_mul_of_pos_right (by omega) (by positivity)
        _ = 2 ^ 52 * 2 ^ (expField v - 1 + 1) := by ring
        _ ≤ 2 ^ 52 * 2 ^ e := Nat.mul_le_mul_left _ (Nat.pow_le_pow_right (by decide) hlt)
    · exact .inl ((pow_dvd_pow 2 hle).mul_left _)

/-! ### Negation -/

theorem fneg_toNat (v : F64) : (fneg v).toNat = v.toNat ^^^ 2 ^ 63 := by
  rw [fneg, BitVec.toNat_xor]; rfl

theorem expField_fneg (v : F64) : expField (fneg v) = expField v := by
  have h : 2 ^ 63 / 2 ^ 52 % 2 ^ 11 = 0 := by decide
  rw [expField, fneg_toNat, Nat.xor_div_two_pow, Nat.xor_mod_two_pow, h, Nat.xor_zero, expField]

theorem fracField_fneg (v : F64) : fracField (fneg v) = fracField v := by
  have h : 2 ^ 63 % 2 ^ 52 = 0 := by decide
  rw [fracField, fneg_toNat, Nat.xor_mod_two_pow, h, Nat.xor_zero, fracField]

theorem signBit_fneg (v : F64) : signBit (fneg v) = !signBit v := by
  have h : (0x8000000000000000#64).msb = true := by decide
  rw [signBit, fneg, BitVec.msb_xor, h, Bool.xor_true, signBit]

theorem isFinite_fneg (v : F64) : isFinite (fneg v) = isFinite v := by
  simp [isFinite, expField_fneg]

theorem magnitude_fneg (v : F64) : magnitude (fneg v) = magnitude v := by
  simp [magnitude, expField_fneg, fracField_fneg]

theorem scaled_fneg (v : F64) : scaled (fneg v) = -scaled v := by
  cases h : signBit v <;> simp [scaled, signBit_fneg, magnitude_fneg, h]

/-! ## The operations on finite values -/

section FiniteOperands

variable {a b : F64}

theorem fadd_of_finite (ha : isFinite a = true) (hb : isFinite b = true) : fadd a b = finiteSum a b := by
  obtain ⟨ha1, ha2⟩ := (isFinite_iff a).1 ha
  obtain ⟨hb1, hb2⟩ := (isFinite_iff b).1 hb
  simp [fadd, sumOrNaN, ha1, ha2, hb1, hb2]

theorem fsub_of_finite (ha : isFinite a = true) (hb : isFinite b = true) :
    fsub a b = finiteSum a (fneg b) := by
  obtain ⟨ha1, ha2⟩ := (isFinite_iff a).1 ha
  obtain ⟨hb1, hb2⟩ := (isFinite_iff (fneg b)).1 (by rwa [isFinite_fneg])
  simp [fsub, sumOrNaN, ha1, ha2, hb1, hb2]

theorem fmul_of_finite (ha : isFinite a = true) (hb : isFinite b = true) :
    fmul a b = packBits (signBit a != signBit b) (roundBits (magnitude a * magnitude b) unitScale) := by
  obtain ⟨ha1, ha2⟩ := (isFinite_iff a).1 ha
  obtain ⟨hb1, hb2⟩ := (isFinite_iff b).1 hb
  simp [fmul, ha1, ha2, hb1, hb2]

end FiniteOperands

/-! ## Rounding a quotient to an integer -/

section Quotient

variable {num den : Nat}

/-- `roundQuotient` in the terms of the remainder: down below half, up above it, to even on half. -/
theorem roundQuotient_cases (num den : Nat) :
    (roundQuotient num den = num / den ∧
      (2 * (num % den) < den ∨ 2 * (num % den) = den ∧ num / den % 2 = 0)) ∨
    (roundQuotient num den = num / den + 1 ∧
      (den < 2 * (num % den) ∨ 2 * (num % den) = den ∧ num / den % 2 = 1)) := by
  unfold roundQuotient
  split
  · exact .inl ⟨rfl, ‹_›⟩
  · exact .inr ⟨rfl, by omega⟩

theorem mul_add_le_mul_of_lt {i j : Nat} (h : i < j) (den : Nat) : i * den + den ≤ j * den := by
  rw [← Nat.succ_mul]
  exact Nat.mul_le_mul_right den h

/-- Rounding reaches the successor of an odd `k` exactly at the half between the two, where the tie goes up. -/
theorem lt_roundQuotient_iff (hden : 0 < den) {k : Nat} (hodd : k % 2 = 1) :
    k < roundQuotient num den ↔ 2 * (k * den) + den ≤ 2 * num := by
  have hr := Nat.mod_lt num hden
  have hq := Nat.div_add_mod' num den
  rcases Nat.lt_trichotomy k (num / den) with hk | rfl | hk
  · have := mul_add_le_mul_of_lt hk den
    rcases roundQuotient_cases num den with ⟨h, -⟩ | ⟨h, -⟩ <;> omega
  · rcases roundQuotient_cases num den with ⟨h, _⟩ | ⟨h, _⟩ <;> omega
  · have := mul_add_le_mul_of_lt hk den
    rcases roundQuotient_cases num den with ⟨h, -⟩ | ⟨h, -⟩ <;> omega

theorem le_roundQuotient (hden : 0 < den) {k : Nat} (h : k * den ≤ num) : k ≤ roundQuotient num den := by
  have hk : k ≤ num / den := (Nat.le_div_iff_mul_le hden).2 h
  rcases roundQuotient_cases num den with ⟨h, -⟩ | ⟨h, -⟩ <;> omega

theorem roundQuotient_le (hden : 0 < den) {k : Nat} (h : num < k * den) : roundQuotient num den ≤ k := by
  have hk : num / den < k := (Nat.div_lt_iff_lt_mul hden).2 h
  rcases roundQuotient_cases num den with ⟨h, -⟩ | ⟨h, -⟩ <;> omega

/-- No multiple of `den` is nearer to `num` than the rounded one, and where another is as near, the rounded
quotient is even. -/
theorem roundQuotient_nearest (hden : 0 < den) (k : Nat) :
    Nat.dist (roundQuotient num den * den) num ≤ Nat.dist (k * den) num ∧
    (Nat.dist (roundQuotient num den * den) num = Nat.dist (k * den) num →
      k ≠ roundQuotient num den → roundQuotient num den % 2 = 0) := by
  have hr := Nat.mod_lt num hden
  have hq := Nat.div_add_mod' num den
  have hstep : (num / den + 1) * den = num / den * den + den := Nat.succ_mul _ _
  unfold Nat.dist
  rcases roundQuotient_cases num den with ⟨h, hhalf⟩ | ⟨h, hhalf⟩ <;> rw [h]
  · rcases Nat.lt_trichotomy k (num / den) with hk | rfl | hk
    · have := mul_add_le_mul_of_lt hk den; omega
    · simp
    · have := mul_add_le_mul_of_lt hk den; omega
  · rcases Nat.lt_trichotomy k (num / den + 1) with hk | rfl | hk
    · have : k * den ≤ num / den * den := Nat.mul_le_mul_right den (Nat.le_of_lt_succ hk)
      omega
    · simp
    · have := mul_add_le_mul_of_lt hk den; omega

end Quotient

/-! ## Rounding a quotient to a binary64 magnitude -/

/-- The exponent at which `roundBits` rounds: the number of bits of the quotient beyond 53. -/
def roundExp (num den : Nat) : Nat :=
  (num / den).log2 - 52

/-- The significand that `roundBits` rounds to, 2^53 where it carries. -/
def roundSig (num den : Nat) : Nat :=
  roundQuotient num (den * 2 ^ roundExp num den)

theorem roundBits_eq (num den : Nat) :
    roundBits num den = min (roundExp num den * 2 ^ 52 + roundSig num den) infBits := rfl

theorem roundBits_lt (num den : Nat) : roundBits num den < 2 ^ 63 := by
  have h : infBits < 2 ^ 63 := by decide
  exact lt_of_le_of_lt (Nat.min_le_right _ _) h

section Magnitude

variable {num den : Nat}

/-- Above exponent 0 the quotient has 53 bits or more at the exponent it is rounded at. -/
theorem le_of_roundExp_pos (hden : 0 < den) (h : 0 < roundExp num den) :
    2 ^ 52 * (den * 2 ^ roundExp num den) ≤ num := by
  have hlog : (num / den).log2 = 52 + roundExp num den := by unfold roundExp at *; omega
  have hq : num / den ≠ 0 := by rintro h0; rw [h0, Nat.log2_zero] at hlog; omega
  have := Nat.log2_self_le hq
  rw [hlog, Nat.le_div_iff_mul_le hden] at this
  calc 2 ^ 52 * (den * 2 ^ roundExp num den) = 2 ^ (52 + roundExp num den) * den := by ring
    _ ≤ num := this

/-- The quotient has at most 53 bits at the exponent it is rounded at. -/
theorem lt_of_roundExp (hden : 0 < den) (num : Nat) : num < 2 ^ 53 * (den * 2 ^ roundExp num den) := by
  have hq : num / den < 2 ^ (53 + roundExp num den) :=
    lt_of_lt_of_le Nat.lt_log2_self (Nat.pow_le_pow_right (by decide) (by unfold roundExp; omega))
  rw [Nat.div_lt_iff_lt_mul hden] at hq
  calc num < 2 ^ (53 + roundExp num den) * den := hq
    _ = 2 ^ 53 * (den * 2 ^ roundExp num den) := by ring

theorem le_roundSig (hden : 0 < den) (h : 0 < roundExp num den) : 2 ^ 52 ≤ roundSig num den :=
  le_roundQuotient (by positivity) (le_of_roundExp_pos hden h)

theorem roundSig_le (hden : 0 < den) (num : Nat) : roundSig num den ≤ 2 ^ 53 :=
  roundQuotient_le (by positivity) (lt_of_roundExp hden num)

/-- The bits reach those of an infinity exactly where the quotient reaches the largest finite value,
(2^53 - 1) * 2^2045, plus half a unit of it. -/
theorem infBits_le_iff (hden : 0 < den) :
    infBits ≤ roundExp num den * 2 ^ 52 + roundSig num den ↔ (2 ^ 54 - 1) * 2 ^ 2044 * den ≤ num := by
  have hlow := le_of_roundExp_pos (num := num) hden
  have hhigh := lt_of_roundExp hden num
  have hsig := le_roundSig (num := num) hden
  have hsig' := roundSig_le hden num
  have hth : (2 ^ 54 - 1) * 2 ^ 2044 * den = (2 ^ 54 - 1) * (den * 2 ^ 2044) := by
    rw [Nat.mul_assoc, Nat.mul_comm den]
  rw [hth, infBits]
  rcases Nat.lt_trichotomy (roundExp num den) 2045 with he | he | he
  · have hpow : den * 2 ^ roundExp num den ≤ den * 2 ^ 2044 := by gcongr <;> omega
    generalize den * 2 ^ 2044 = d at *
    omega
  · have hpow : den * 2 ^ roundExp num den = 2 * (den * 2 ^ 2044) := by
      rw [he, pow_succ 2 2044, ← Nat.mul_assoc, Nat.mul_comm]
    have hcarry : 2 ^ 53 - 1 < roundSig num den ↔ _ :=
      lt_roundQuotient_iff (num := num) (den := den * 2 ^ roundExp num den) (by positivity) (by decide)
    rw [hpow] at hcarry
    generalize den * 2 ^ 2044 = d at *
    omega
  · have hpow : den * 2 ^ (2044 + 2) ≤ den * 2 ^ roundExp num den := by gcongr <;> omega
    rw [pow_add, ← Nat.mul_assoc] at hpow
    generalize den * 2 ^ 2044 = d at *
    omega

/-- A finite rounded magnitude is the significand at the exponent. -/
theorem magnitude_packBits_roundBits (hden : 0 < den) (neg : Bool) (h : roundBits num den < infBits) :
    magnitude (packBits neg (roundBits num den)) = roundSig num den * 2 ^ roundExp num den ∧
      fracField (packBits neg (roundBits num den)) % 2 = roundSig num den % 2 := by
  have hbits : roundBits num den = roundExp num den * 2 ^ 52 + roundSig num den := by
    rw [roundBits_eq] at h ⊢; omega
  have h63 := roundBits_lt num den
  refine ⟨?_, ?_⟩
  · rw [hbits] at h63 ⊢
    exact magnitude_packBits (le_roundSig hden) (roundSig_le hden num) h63
  · rw [fracField_packBits h63, hbits]
    omega

/-- No finite value has a magnitude nearer to the quotient than the rounded one, and where another magnitude is
as near, the rounded significand is even. -/
theorem roundSig_nearest (hden : 0 < den) (num : Nat) (c : F64) :
    Nat.dist (roundSig num den * 2 ^ roundExp num den * den) num ≤ Nat.dist (magnitude c * den) num ∧
    (Nat.dist (roundSig num den * 2 ^ roundExp num den * den) num = Nat.dist (magnitude c * den) num →
      magnitude c ≠ roundSig num den * 2 ^ roundExp num den → roundSig num den % 2 = 0) := by
  have hgrid := roundQuotient_nearest (num := num) (den := den * 2 ^ roundExp num den) (by positivity)
  have hassoc : ∀ k, k * 2 ^ roundExp num den * den = k * (den * 2 ^ roundExp num den) := fun k => by ring
  by_cases hdvd : 2 ^ roundExp num den ∣ magnitude c
  · obtain ⟨k, hk⟩ := hdvd
    rw [mul_comm] at hk
    rw [hk, hassoc, hassoc]
    obtain ⟨hle, htie⟩ := hgrid k
    exact ⟨hle, fun heq hne => htie heq (fun h => hne (by rw [h]; rfl))⟩
  · -- Off the grid, `c` lies below the binade, whose least point 2^52 on the grid is nearer to the quotient.
    have hlt := (magnitude_dvd_or_lt c (roundExp num den)).resolve_left hdvd
    have hpos : 0 < roundExp num den := Nat.pos_of_ne_zero fun h => hdvd (by rw [h]; exact one_dvd _)
    have hbelow : magnitude c * den < 2 ^ 52 * (den * 2 ^ roundExp num den) := by
      rw [← hassoc]; exact Nat.mul_lt_mul_of_pos_right hlt hden
    have hbinade := le_of_roundExp_pos hden hpos
    have hnear := (hgrid (2 ^ 52)).1
    rw [hassoc]
    have : Nat.dist (roundSig num den * (den * 2 ^ roundExp num den)) num < Nat.dist (magnitude c * den) num := by
      refine lt_of_le_of_lt hnear ?_
      unfold Nat.dist
      omega
    exact ⟨this.le, fun heq => absurd heq this.ne⟩

end Magnitude

/-! ## Rounding a signed quotient -/

/-- `r` is the binary64 value of `e / den` rounded to nearest, ties to even: an infinity from the largest finite
value plus half a unit on, below it a finite value that none is nearer than, with an even fraction field where
another is as near (IEEE 754 roundTiesToEven). -/
def IsRounded (r : F64) (e : Int) (den : Nat) : Prop :=
  ((2 ^ 54 - 1) * 2 ^ 2044 * den ≤ e.natAbs → isInf r = true) ∧
  (e.natAbs < (2 ^ 54 - 1) * 2 ^ 2044 * den → isFinite r = true ∧
    ∀ c : F64, isFinite c = true →
      |scaled r * den - e| ≤ |scaled c * den - e| ∧
      (|scaled r * den - e| = |scaled c * den - e| → scaled c ≠ scaled r → fracField r % 2 = 0))

section Signed

variable {e : Int} {den : Nat}

/-- A value with the sign of `e / den` is as far from it as the magnitudes are. -/
theorem natAbs_scaled_sub {r : F64} (hsign : e ≠ 0 → signBit r = decide (e < 0)) :
    (scaled r * den - e).natAbs = Nat.dist (magnitude r * den) e.natAbs := by
  unfold scaled Nat.dist
  rcases eq_or_ne e 0 with rfl | he
  · split <;> simp [Int.natAbs_mul]
  · simp only [hsign he, decide_eq_true_eq]
    split
    · rw [neg_mul, ← Nat.cast_mul]; omega
    · rw [← Nat.cast_mul]; omega

/-- No value is nearer to `e / den` than the magnitudes are. -/
theorem dist_le_natAbs_scaled_sub (c : F64) :
    Nat.dist (magnitude c * den) e.natAbs ≤ (scaled c * den - e).natAbs := by
  have h : (scaled c * den).natAbs = magnitude c * den := by rw [Int.natAbs_mul, natAbs_scaled, Int.natAbs_natCast]
  rw [← h, Nat.dist]
  omega

/-- The packed rounded magnitude is nearest among the values of both signs. -/
theorem packBits_roundBits_nearest {neg : Bool} (hden : 0 < den) (hneg : e ≠ 0 → neg = decide (e < 0))
    (hfin : roundBits e.natAbs den < infBits) {r : F64} (hr : r = packBits neg (roundBits e.natAbs den)) (c : F64) :
    (scaled r * den - e).natAbs ≤ (scaled c * den - e).natAbs ∧
      ((scaled r * den - e).natAbs = (scaled c * den - e).natAbs → scaled c ≠ scaled r →
        fracField r % 2 = 0) := by
  obtain ⟨hmag, hfrac⟩ := magnitude_packBits_roundBits hden neg hfin
  have hnear := roundSig_nearest hden e.natAbs
  have hsign : e ≠ 0 → signBit r = decide (e < 0) := by rwa [hr, signBit_packBits (roundBits_lt _ _)]
  rw [← hr] at hmag hfrac
  rw [← hmag, ← hfrac] at hnear
  have hdist := natAbs_scaled_sub (den := den) hsign
  have hc := dist_le_natAbs_scaled_sub (e := e) (den := den) c
  obtain ⟨hle, htie⟩ := hnear c
  refine ⟨by omega, fun heq hne => ?_⟩
  by_cases hm : magnitude c = magnitude r
  · -- `c` is `-r` and no zero, so it is as near only to an exact 0, which rounds to 0.
    exfalso
    have hopp : scaled c = -scaled r := by
      have := natAbs_scaled c; have := natAbs_scaled r; omega
    have hrd : scaled r * den ≠ 0 := mul_ne_zero (by omega) (by exact_mod_cast hden.ne')
    rw [hopp, neg_mul] at heq
    obtain rfl : e = 0 := by omega
    have hzero : (scaled r * den).natAbs ≤ 0 := by
      have hpos : magnitude posZero = 0 := by decide
      simpa [Int.natAbs_mul, natAbs_scaled, Nat.dist_zero_right, hpos] using (hnear posZero).1
    omega
  · exact htie (by omega) hm

/-- Packing the rounded magnitude under the sign of the exact value rounds it correctly. -/
theorem isRounded_packBits_roundBits {neg : Bool} (hden : 0 < den) (hneg : e ≠ 0 → neg = decide (e < 0)) :
    IsRounded (packBits neg (roundBits e.natAbs den)) e den := by
  have hiff := infBits_le_iff (num := e.natAbs) hden
  have hmin := roundBits_eq e.natAbs den
  refine ⟨fun hover => ?_, fun hunder => ?_⟩
  · rw [hmin, Nat.min_eq_right (hiff.2 hover)]
    exact isInf_packBits_infBits
  · have hfin : roundBits e.natAbs den < infBits := by
      rw [hmin]; exact lt_of_le_of_lt (Nat.min_le_left _ _) (by rw [← not_le, hiff]; exact not_le.2 hunder)
    refine ⟨isFinite_packBits hfin, fun c _ => ?_⟩
    simp only [Int.abs_eq_natAbs, Int.ofNat_le, Int.natCast_inj]
    exact packBits_roundBits_nearest hden hneg hfin rfl c

end Signed

/-! ## Sums -/

/-- A finite sum is the packed rounding of the exact sum under its sign; that of 0 rounds to 0 as well. -/
theorem finiteSum_eq_packBits (a b : F64) :
    ∃ neg, (scaled a + scaled b ≠ 0 → neg = decide (scaled a + scaled b < 0)) ∧
      finiteSum a b = packBits neg (roundBits (scaled a + scaled b).natAbs 1) := by
  unfold finiteSum
  split
  next h =>
    have hzero : roundBits 0 1 = 0 := by decide
    exact ⟨signBit a && signBit b, fun hne => absurd h hne, by rw [h, Int.natAbs_zero, hzero]⟩
  next => exact ⟨_, fun _ => rfl, rfl⟩

theorem signBit_finiteSum {a b : F64} (h : scaled a + scaled b ≠ 0) :
    signBit (finiteSum a b) = decide (scaled a + scaled b < 0) := by
  obtain ⟨neg, hneg, heq⟩ := finiteSum_eq_packBits a b
  rw [heq, signBit_packBits (roundBits_lt _ _), hneg h]

theorem isRounded_finiteSum (a b : F64) : IsRounded (finiteSum a b) (scaled a + scaled b) 1 := by
  obtain ⟨neg, hneg, heq⟩ := finiteSum_eq_packBits a b
  rw [heq]
  exact isRounded_packBits_roundBits (by decide) hneg

/-- Both operations are a finite sum, the difference that of the second operand's negation. -/
theorem exists_finiteSum_eq {a b r : F64} {e : Int} (ha : isFinite a = true) (hb : isFinite b = true)
    (h : (r = fadd a b ∧ e = scaled a + scaled b) ∨ (r = fsub a b ∧ e = scaled a - scaled b)) :
    ∃ b', r = finiteSum a b' ∧ e = scaled a + scaled b' := by
  rcases h with ⟨rfl, rfl⟩ | ⟨rfl, rfl⟩
  · exact ⟨b, fadd_of_finite ha hb, rfl⟩
  · exact ⟨fneg b, fsub_of_finite ha hb, by rw [scaled_fneg]; rfl⟩

/-- Settles O22: each of the two operations is a finite sum, which packs the rounded exact sum. -/
theorem sumsAreCorrectlyRounded : Obligations.SumsAreCorrectlyRounded := by
  intro a b r e ha hb h
  obtain ⟨b', rfl, rfl⟩ := exists_finiteSum_eq ha hb h
  have hround := isRounded_finiteSum a b'
  simp only [IsRounded, Nat.cast_one, mul_one] at hround
  exact ⟨signBit_finiteSum, hround⟩

/-! ## The sign of an exact zero -/

theorem magnitude_eq_zero_iff (v : F64) : magnitude v = 0 ↔ expField v = 0 ∧ fracField v = 0 := by
  unfold magnitude
  split
  next h => simp [h]
  next h => simp [h]

theorem scaled_eq_zero_iff (v : F64) : scaled v = 0 ↔ expField v = 0 ∧ fracField v = 0 := by
  rw [← Int.natAbs_eq_zero, natAbs_scaled, magnitude_eq_zero_iff]

/-- There is one zero of each sign. -/
theorem eq_of_signBit_eq_of_scaled_eq_zero {v w : F64} (hs : signBit v = signBit w) (hv : scaled v = 0)
    (hw : scaled w = 0) : v = w := by
  rw [scaled_eq_zero_iff, expField, fracField] at hv hw
  rw [signBit, signBit, BitVec.msb_eq_decide, BitVec.msb_eq_decide, decide_eq_decide] at hs
  bv_omega

theorem eq_negZero_iff (v : F64) : v = 0x8000000000000000#64 ↔ signBit v = true ∧ scaled v = 0 :=
  ⟨by rintro rfl; decide, fun ⟨hs, h⟩ => eq_of_signBit_eq_of_scaled_eq_zero hs h (by decide)⟩

theorem eq_posZero_iff (v : F64) : v = 0#64 ↔ signBit v = false ∧ scaled v = 0 :=
  ⟨by rintro rfl; decide, fun ⟨hs, h⟩ => eq_of_signBit_eq_of_scaled_eq_zero hs h (by decide)⟩

theorem fneg_eq_negZero_iff (v : F64) : fneg v = 0x8000000000000000#64 ↔ v = 0#64 := by
  simp [eq_negZero_iff, eq_posZero_iff, signBit_fneg, scaled_fneg]

theorem scaled_nonpos {v : F64} (h : signBit v = true) : scaled v ≤ 0 := by
  rw [scaled, if_pos h]; omega

/-- Two values of sum 0 that are both negative are both -0.0; else one is positive, and the sum is +0.0. -/
theorem finiteSum_of_sum_eq_zero {a b : F64} (h : scaled a + scaled b = 0) :
    finiteSum a b =
      if a = 0x8000000000000000#64 ∧ b = 0x8000000000000000#64 then 0x8000000000000000#64 else 0#64 := by
  simp only [finiteSum, h, if_true, eq_negZero_iff]
  by_cases hs : signBit a = true ∧ signBit b = true
  · obtain ⟨hsa, hsb⟩ := hs
    have ha := scaled_nonpos hsa
    have hb := scaled_nonpos hsb
    rw [if_pos ⟨⟨hsa, by omega⟩, hsb, by omega⟩, hsa, hsb]
    rfl
  · have hand : (signBit a && signBit b) = false := by simpa using hs
    rw [if_neg fun ⟨⟨hsa, _⟩, hsb, _⟩ => hs ⟨hsa, hsb⟩, hand]
    rfl

/-- Settles O23: the sum of 0 of two values, and of the first with the negation of the second. -/
theorem exactZeroSumsHaveIeeeSign : Obligations.ExactZeroSumsHaveIeeeSign := by
  intro a b ha hb
  constructor
  · intro h
    rw [fadd_of_finite ha hb, finiteSum_of_sum_eq_zero h]
  · intro h
    rw [fsub_of_finite ha hb, finiteSum_of_sum_eq_zero (by rw [scaled_fneg]; exact h)]
    simp only [fneg_eq_negZero_iff]

/-! ## Products -/

theorem unitScale_pos : 0 < unitScale := by
  unfold unitScale; positivity

/-- The sign of a product that is not 0 is the exclusive or of the signs. -/
theorem signBit_xor_eq_decide {a b : F64} (h : scaled a * scaled b ≠ 0) :
    (signBit a != signBit b) = decide (scaled a * scaled b < 0) := by
  have hm : 0 < (magnitude a : Int) * magnitude b := by
    rw [← natAbs_scaled, ← natAbs_scaled, ← Nat.cast_mul, ← Int.natAbs_mul]; omega
  cases hsa : signBit a <;> cases hsb : signBit b <;> simp [scaled, hsa, hsb] <;> omega

/-- Settles O24: a product packs the rounded exact product under the exclusive or of the signs. -/
theorem productsAreCorrectlyRounded : Obligations.ProductsAreCorrectlyRounded := by
  intro a b ha hb
  have hmul : fmul a b = packBits (signBit a != signBit b) (roundBits (scaled a * scaled b).natAbs unitScale) := by
    rw [fmul_of_finite ha hb, Int.natAbs_mul, natAbs_scaled, natAbs_scaled]
  rw [hmul]
  exact ⟨signBit_packBits (roundBits_lt _ _), isRounded_packBits_roundBits unitScale_pos signBit_xor_eq_decide⟩

end Sys2Proof.Machine

/-! PROOFS, 10_state.md. What an instruction can do to the state, and the invariants of R56 on top of it.

An instruction that goes on is a host access, of one of four effects (`HostEffect`), or a core operation, of one
of three (`CoreEffect`). Who writes which state (R31 to R53) is read off these effects. The invariant of R56 is
kept by the host's four by their frames; the one step with arithmetic in it is a sample step of a run, which keeps
`RunInv`: the invariant of a run in progress that also holds at its end, where it gives the clause for DONE. -/

namespace Sys2Proof.Machine

/-! ## The effects of a host access -/

/-- What a host access `i` can do: answer and perhaps write IE; write the configuration outside a run; or be a
write to CTRL with START outside a run, which rejects or accepts the configuration. -/
inductive HostEffect (i : Instr) (s : State) : State → Prop
  | answered (ie : Bool) (a : BusAnswer) : HostEffect i s { s with ie := ie, answer := a }
  | configured (tier : BitVec 2) (channels : BitVec 16) (periods : BitVec 32) (a : BusAnswer)
      (hidle : s.fsm ≠ .busy) :
      HostEffect i s { s with tier := tier, channels := channels, outPeriods := periods, answer := a }
  | rejected (d : Word32) (code : BitVec 4) (hi : i = .wr32Ctrl d) (hstart : d.getLsbD 0 = true)
      (hidle : s.fsm ≠ .busy) :
      HostEffect i s { setError code s with ie := d.getLsbD 1, answer := .written }
  | started (d : Word32) (hi : i = .wr32Ctrl d) (hstart : d.getLsbD 0 = true) (hidle : s.fsm ≠ .busy)
      (hvalid : ConfigValid s) :
      HostEffect i s { acceptStart s with ie := d.getLsbD 1, answer := .written }

section HostAccess

variable {i : Instr} {s t : State}

theorem hostEffect_readRegister {r : Reg} (h : readRegister r s = .next t) : HostEffect i s t := by
  cases h
  exact .answered s.ie _

theorem hostEffect_ignoreWrite (h : ignoreWrite s = .next t) : HostEffect i s t := by
  cases h
  exact .answered s.ie _

theorem hostEffect_answerBusError {off : BitVec 14} {w : BusWidth} {dir : BusDir}
    (h : (.next (answerBusError off w dir s) : Result) = .next t) : HostEffect i s t := by
  cases h
  exact .answered s.ie _

/-- A configuration write is ignored in a run, and the update of its register outside one. -/
theorem hostEffect_writeConfig {update : State → State}
    (hupdate : ∃ tier channels periods, update s =
      { s with tier := tier, channels := channels, outPeriods := periods })
    (h : writeConfig update s = .next t) : HostEffect i s t := by
  cases h
  by_cases hb : s.fsm = .busy
  · rw [configure_of_busy hb]
    exact .answered s.ie _
  · obtain ⟨tier, channels, periods, hu⟩ := hupdate
    rw [configure_of_not_busy hb, hu]
    exact .configured tier channels periods _ hb

/-- A write to CTRL writes IE, and with START outside a run it also validates the configuration. -/
theorem hostEffect_writeCtrl (d : Word32) (s : State) :
    HostEffect (.wr32Ctrl d) s (answerWrite (writeCtrl d s)) := by
  rcases writeCtrl_cases d s with ⟨-, hw⟩ | ⟨hstart, hidle, hw⟩ <;> rw [hw]
  · exact .answered _ _
  · rcases startRun_cases { s with ie := d.getLsbD 1 } with ⟨-, -, hr⟩ | ⟨-, -, hr⟩ | ⟨-, -, -, hr⟩ | ⟨ht, hc, hp, hr⟩ <;>
      rw [hr]
    · exact .rejected d badTier rfl hstart hidle
    · exact .rejected d badChannels rfl hstart hidle
    · exact .rejected d badLength rfl hstart hidle
    · exact .started d rfl hstart hidle ⟨ht, hc, hp⟩

theorem hostEffect_of_exec (hi : isHostAccess i = true) (h : exec i s = .next t) : HostEffect i s t := by
  cases i
  case rd32Ctrl | rd32Status | rd32Tier | rd32Channels | rd32OutPeriods | rd32Seed | rd32PreviewCount
      | rd32SampleIndexLo | rd32SampleIndexHi | rd32TotalLo | rd32TotalHi | rd32EnergyLo | rd32EnergyHi
      | rd32PreviewLo | rd32PreviewHi | rd32Reserved => exact hostEffect_readRegister h
  case wr32Status | wr32Seed | wr32PreviewCount | wr32SampleIndexLo | wr32SampleIndexHi | wr32TotalLo
      | wr32TotalHi | wr32EnergyLo | wr32EnergyHi | wr32PreviewLo | wr32PreviewHi | wr32Reserved =>
    exact hostEffect_ignoreWrite h
  case wr32Ctrl d =>
    cases h
    exact hostEffect_writeCtrl d s
  case wr32Tier d => exact hostEffect_writeConfig ⟨d.setWidth 2, s.channels, s.outPeriods, rfl⟩ h
  case wr32Channels d => exact hostEffect_writeConfig ⟨s.tier, d.setWidth 16, s.outPeriods, rfl⟩ h
  case wr32OutPeriods d => exact hostEffect_writeConfig ⟨s.tier, s.channels, d, rfl⟩ h
  case busErrMisaligned | busErrWidth => exact hostEffect_answerBusError h
  case prngStep | prngMap | pinkStep | bqHp1 | bqHp2 | bqLp1 | bqLp2 | limit | energyAcc | previewCap | pcmConv
      | pcmEmit | sampleStep | runEnd | reservedCoreOp14 | reservedCoreOp15 => cases hi

end HostAccess

/-! ## The effects of a core operation -/

/-- What a core operation `i` that goes on can do: write the datapath and the results, as a single stage does; be a
sample step of a run; or end the run. -/
inductive CoreEffect (i : Instr) (s : State) : State → Prop
  | staged (seed : BitVec 20) (b : Vector F64 6) (z : F64) (bq : Cascade) (energy : F64) (preview : Vector F64 1000)
      (count : BitVec 11) (pcm : List Byte) (wires : Wires) :
      CoreEffect i s { s with
        seed := seed, b := b, z := z, bq := bq, energy := energy, preview := preview, previewCount := count
        pcmOut := pcm, wires := wires }
  | sampled {t : State} (hi : i = .sampleStep) (hbusy : s.fsm = .busy) (h : sampleStepOp s = .next t) :
      CoreEffect i s t
  | ended (hi : i = .runEnd) : CoreEffect i s (endRun s)

theorem coreEffect_of_limitStage {i : Instr} {s t : State} (h : limitStage s = .next t) : CoreEffect i s t := by
  by_cases hf : isFinite s.wires.y = true
  · rw [limitStage_of_finite hf] at h
    cases h
    exact .staged ..
  · rw [limitStage_of_not_finite hf] at h
    cases h

theorem coreEffect_of_sampleStepOp {s t : State} (h : sampleStepOp s = .next t) : CoreEffect .sampleStep s t := by
  by_cases hb : s.fsm = .busy
  · exact .sampled rfl hb h
  · rw [sampleStepOp, if_neg hb] at h
    cases h
    exact .staged ..

theorem coreEffect_of_exec {i : Instr} {s t : State} (hi : isHostAccess i = false) (h : exec i s = .next t) :
    CoreEffect i s t := by
  cases i
  case prngStep | prngMap | pinkStep | bqHp1 | bqHp2 | bqLp1 | bqLp2 =>
    cases h
    exact .staged ..
  case limit => exact coreEffect_of_limitStage h
  case energyAcc =>
    cases h
    rw [energyStage_eq]
    exact .staged ..
  case previewCap =>
    cases h
    rw [previewStage_eq]
    exact .staged ..
  case pcmConv =>
    cases h
    rw [pcmConvStage_eq]
    exact .staged ..
  case pcmEmit =>
    cases h
    rw [pcmEmitStage_eq]
    exact .staged ..
  case sampleStep => exact coreEffect_of_sampleStepOp h
  case runEnd =>
    cases h
    exact .ended rfl
  case reservedCoreOp14 | reservedCoreOp15 => cases h
  all_goals cases hi

/-! ## Who writes which state -/

/-- Settles O49: neither a stage, nor a sample step, nor RUN_END writes one of the host's fields. -/
theorem coreOpsLeaveHostState : Obligations.CoreOpsLeaveHostState := by
  intro i s t hi h
  cases coreEffect_of_exec hi h with
  | staged => exact ⟨rfl, rfl, rfl, rfl, rfl, rfl, rfl, rfl, rfl⟩
  | sampled _ hbusy hstep =>
    obtain ⟨-, rfl⟩ := sampleStepOp_next hbusy hstep
    exact ⟨rfl, rfl, rfl, rfl, rfl, rfl, rfl, rfl, rfl⟩
  | ended => exact ⟨rfl, rfl, rfl, rfl, rfl, rfl, rfl, rfl, rfl⟩

/-- Settles O47: of the host's effects only START's two write fsm, of the core's a sample step of a run, which
leaves it BUSY before the last sample, and RUN_END. -/
theorem onlyStartAndRunEndChangeFsm : Obligations.OnlyStartAndRunEndChangeFsm := by
  intro i s t h hne
  cases hi : isHostAccess i with
  | true =>
    cases hostEffect_of_exec hi h with
    | answered | configured => exact absurd rfl hne
    | rejected d code hd hstart hidle => exact .inl ⟨d, hd, hstart, hidle, .inr rfl⟩
    | started d hd hstart hidle => exact .inl ⟨d, hd, hstart, hidle, .inl rfl⟩
  | false =>
    cases coreEffect_of_exec hi h with
    | staged => exact absurd rfl hne
    | sampled hs hbusy hstep =>
      obtain ⟨-, rfl⟩ := sampleStepOp_next hbusy hstep
      by_cases hlast : s.sampleIndex.toNat + 1 = s.total.toNat
      · exact .inr (.inl ⟨hs, hbusy, if_pos hlast, hlast⟩)
      · exact absurd ((if_neg hlast).trans hbusy.symm) hne
    | ended hr => exact .inr (.inr ⟨hr, rfl⟩)

/-- No instruction writes the constant store or the schedule. -/
theorem exec_consts_agenda {i : Instr} {s t : State} (h : exec i s = .next t) :
    t.consts = s.consts ∧ t.agenda = s.agenda := by
  cases hi : isHostAccess i with
  | true => cases hostEffect_of_exec hi h <;> exact ⟨rfl, rfl⟩
  | false =>
    obtain ⟨-, -, -, -, -, -, hconsts, -, hagenda⟩ := coreOpsLeaveHostState i s t hi h
    exact ⟨hconsts, hagenda⟩

/-- Settles O44: a hardware reset keeps the store by its definition, an instruction by its effects. -/
theorem noStepWritesConstantStore : Obligations.NoStepWritesConstantStore := by
  intro s t h
  rcases step_next_cases h with ⟨-, rfl⟩ | ⟨-, i, -, hexec⟩
  · rfl
  · exact (exec_consts_agenda hexec).1

/-- Settles O45: the host's effects on a BUSY core are answers, and the core's leave the configuration. -/
theorem configurationFrozenWhileBusy : Obligations.ConfigurationFrozenWhileBusy := by
  intro s t hbusy hreset h
  rcases step_next_cases h with ⟨hr, -⟩ | ⟨-, i, -, hexec⟩
  · rw [hreset] at hr
    cases hr
  · cases hi : isHostAccess i with
    | true =>
      cases hostEffect_of_exec hi hexec with
      | answered => exact ⟨rfl, rfl, rfl, rfl⟩
      | configured _ _ _ _ hidle => exact absurd hbusy hidle
      | rejected _ _ _ _ hidle => exact absurd hbusy hidle
      | started _ _ _ hidle => exact absurd hbusy hidle
    | false =>
      obtain ⟨htier, hchannels, hperiods, -, -, htotal, -⟩ := coreOpsLeaveHostState i _ t hi hexec
      exact ⟨htier, hchannels, hperiods, htotal⟩

/-! ## The period, the stride and the preview entries -/

theorem tierConsts_period_of_valid {tier : BitVec 2} (h : TierValid tier) :
    (tierConsts tier).period = 2 ^ 19 ∨ (tierConsts tier).period = 2 ^ 20 := by
  rcases h with rfl | rfl
  · exact .inl rfl
  · exact .inr rfl

theorem previewLength_le_period {tier : BitVec 2} (h : TierValid tier) :
    previewLength ≤ (tierConsts tier).period := by
  rcases tierConsts_period_of_valid h with hp | hp <;> rw [hp] <;> decide

/-- The PRNG masks with P - 1, a mask of ones, so that every SEED it gives is below P (41_prng.md R170). -/
theorem nextSeed_lt {c : TierConsts} (h : 0 < c.period) (seed : BitVec 20) : (nextSeed c seed).toNat < c.period :=
  calc (nextSeed c seed).toNat
      ≤ (lcgMultiplier * seed.toNat + c.increment) &&& (c.period - 1) := Nat.mod_le _ _
    _ ≤ c.period - 1 := Nat.and_le_right
    _ < c.period := Nat.sub_lt h Nat.one_pos

/-- The capture indices below `j` for a stride: the multiples of `stride` among them, ceil(j / stride) of them. -/
def capturesBelow (j stride : Nat) : Nat :=
  (j + (stride - 1)) / stride

@[simp] theorem capturesBelow_zero (stride : Nat) : capturesBelow 0 stride = 0 := by
  unfold capturesBelow
  rcases stride.eq_zero_or_pos with rfl | h
  · rfl
  · exact Nat.div_eq_of_lt (by omega)

/-- One more index is one more capture exactly where the index is a multiple of the stride. -/
theorem capturesBelow_succ {stride : Nat} (h : 0 < stride) (j : Nat) :
    capturesBelow (j + 1) stride = capturesBelow j stride + if stride ∣ j then 1 else 0 := by
  have hsum : j + (stride - 1) + 1 = j + stride := by omega
  unfold capturesBelow
  rw [Nat.add_right_comm, Nat.succ_div]
  simp only [hsum, Nat.dvd_add_self_right]

/-- A run of `n` output samples with stride floor(n / 1000) has at least 1000 capture indices. -/
theorem le_capturesBelow {n : Nat} (h : previewLength ≤ n) :
    previewLength ≤ capturesBelow n (n / previewLength) := by
  have hpos : 0 < n / previewLength := Nat.div_pos h (by decide)
  unfold capturesBelow
  rw [Nat.le_div_iff_mul_le hpos]
  exact (Nat.mul_div_le n previewLength).trans (Nat.le_add_right _ _)

/-! ## The invariant of a run, its end included -/

/-- What R56 says of a run in progress, with SAMPLE_INDEX = TOTAL allowed: `BusyInv` before the end of the run, and
at its end what gives `DoneInv`. -/
structure RunInv (s : State) : Prop where
  config : ConfigValid s
  total : s.total.toNat = (s.outPeriods.toNat + 1) * periodOf s
  index : s.sampleIndex.toNat ≤ s.total.toNat
  seed : s.seed.toNat < periodOf s
  stream : s.pcmOut.length = 3 * s.channels.toNat * outputsSoFar s
  entries : s.previewCount.toNat = min previewLength (capturesBelow (outputsSoFar s) (strideOf s))

theorem busyInv_iff (s : State) : BusyInv s ↔ RunInv s ∧ s.sampleIndex.toNat < s.total.toNat :=
  ⟨fun ⟨config, total, index, seed, stream, entries⟩ =>
      ⟨⟨config, total, index.le, seed, stream, entries⟩, index⟩,
    fun ⟨⟨config, total, _, seed, stream, entries⟩, index⟩ =>
      ⟨config, total, index, seed, stream, entries⟩⟩

namespace RunInv

variable {s : State}

theorem outPeriods_pos (h : RunInv s) : 0 < s.outPeriods.toNat := by
  obtain ⟨-, -, hperiods⟩ := h.config
  exact Nat.pos_of_ne_zero fun h0 => hperiods (BitVec.eq_of_toNat_eq h0)

theorem channels_pos (h : RunInv s) : 0 < s.channels.toNat := by
  obtain ⟨-, hchannels, -⟩ := h.config
  exact Nat.pos_of_ne_zero fun h0 => hchannels (BitVec.eq_of_toNat_eq h0)

theorem noutOf_eq (h : RunInv s) : noutOf s = s.outPeriods.toNat * periodOf s := by
  rw [noutOf, h.total, Nat.succ_mul, Nat.add_sub_cancel]

theorem previewLength_le_noutOf (h : RunInv s) : previewLength ≤ noutOf s := by
  rw [h.noutOf_eq]
  exact (previewLength_le_period h.config.1).trans (Nat.le_mul_of_pos_left _ h.outPeriods_pos)

theorem strideOf_pos (h : RunInv s) : 0 < strideOf s :=
  Nat.div_pos h.previewLength_le_noutOf (by decide)

/-- At SAMPLE_INDEX = TOTAL the stream and the preview are complete. -/
theorem doneInv (h : RunInv s) (hend : s.sampleIndex = s.total) : DoneInv s := by
  have hout : outputsSoFar s = noutOf s := by rw [outputsSoFar, hend, noutOf]
  refine ⟨hend, ?_, s.tier, s.channels.toNat, s.outPeriods.toNat, h.config.1, h.channels_pos, h.outPeriods_pos,
    h.total, ?_⟩
  · rw [h.entries, hout, strideOf]
    exact Nat.min_eq_left (le_capturesBelow h.previewLength_le_noutOf)
  · rw [h.stream, hout, h.noutOf_eq, periodOf, runConsts]

end RunInv

/-! ## A sample step of a run -/

theorem length_frameBytes (n : Word32) (channels : Nat) : (frameBytes n channels).length = 3 * channels := by
  simp [frameBytes, sampleBytes, Nat.mul_comm]

/-- A sample step generates one output from SAMPLE_INDEX = P on, and none in the warm-up (45_accumulator.md R261). -/
theorem outputs_succ (i p : Nat) : i + 1 - p = i - p + if p ≤ i then 1 else 0 := by
  split <;> omega

theorem isOutputSample_iff (s : State) : isOutputSample s = true ↔ periodOf s ≤ s.sampleIndex.toNat :=
  decide_eq_true_iff

/-- In a run PREVIEW_CAP captures the output indices that the stride divides, up to 1000 of them. -/
theorem capturesPreview_iff {s : State} (h : 0 < strideOf s) :
    capturesPreview s = true ↔
      isOutputSample s = true ∧ strideOf s ∣ outputsSoFar s ∧ s.previewCount.toNat < previewLength := by
  simp [capturesPreview, isCaptureIndex, h.ne', Nat.dvd_iff_mod_eq_zero, outputIndex, outputsSoFar, and_assoc]

/-- A sample step of a run keeps PREVIEW_COUNT at what the stride gives (45_accumulator.md R263). -/
theorem RunInv.entries_succ {s : State} (h : RunInv s) :
    (if capturesPreview s then s.previewCount + 1#11 else s.previewCount).toNat =
      min previewLength (capturesBelow (s.sampleIndex.toNat + 1 - periodOf s) (strideOf s)) := by
  have hcount := h.entries
  have hsucc := capturesBelow_succ h.strideOf_pos (outputsSoFar s)
  have hcap := capturesPreview_iff h.strideOf_pos
  rw [isOutputSample_iff] at hcap
  rw [outputs_succ]
  by_cases hout : periodOf s ≤ s.sampleIndex.toNat
  · rw [if_pos hout]
    change _ = min _ (capturesBelow (outputsSoFar s + 1) _)
    by_cases hdvd : strideOf s ∣ outputsSoFar s
    · rw [if_pos hdvd] at hsucc
      by_cases hfull : s.previewCount.toNat < previewLength
      · rw [if_pos (hcap.2 ⟨hout, hdvd, hfull⟩), BitVec.toNat_add]
        unfold previewLength at *
        simp only [BitVec.toNat_ofNat]
        omega
      · rw [if_neg (by simp [hcap, hfull])]
        omega
    · rw [if_neg hdvd] at hsucc
      rw [if_neg (by simp [hcap, hdvd]), hsucc]
      exact hcount
  · rw [if_neg hout, if_neg (by simp [hcap, hout])]
    exact hcount

/-- A sample step of a run keeps PCM_OUT at one frame for each output sample (46_pcm_formatter.md R291, R292). -/
theorem RunInv.stream_succ {s : State} (h : RunInv s) (n : Word32) :
    (if isOutputSample s then s.pcmOut ++ frameBytes n s.channels.toNat else s.pcmOut).length =
      3 * s.channels.toNat * (s.sampleIndex.toNat + 1 - periodOf s) := by
  have hstream := h.stream
  rw [outputs_succ, Nat.mul_add]
  simp only [isOutputSample_iff]
  split
  · rw [List.length_append, length_frameBytes, hstream, Nat.mul_one, outputsSoFar]
  · exact hstream

/-- A sample step of a run leaves `RunInv`, the last one too, and ends the run exactly at SAMPLE_INDEX = TOTAL. -/
theorem BusyInv.sampleStep {s t : State} (hinv : BusyInv s) (hbusy : s.fsm = .busy)
    (hstep : sampleStepOp s = .next t) :
    RunInv t ∧ t.fsm = if t.sampleIndex = t.total then .done else .busy := by
  obtain ⟨h, hindex⟩ := (busyInv_iff s).1 hinv
  have hnext : (nextIndex s.sampleIndex).toNat = s.sampleIndex.toNat + 1 :=
    nextIndex_toNat (lt_of_le_of_lt hindex s.total.isLt)
  have hperiod : 0 < (runConsts s).period := Nat.zero_lt_of_lt h.seed
  obtain ⟨-, rfl⟩ := sampleStepOp_next hbusy hstep
  refine ⟨⟨h.config, h.total, hnext.trans_le hindex, nextSeed_lt hperiod _, ?_, ?_⟩, ?_⟩
  · rw [outputsSoFar, hnext]
    exact h.stream_succ _
  · rw [outputsSoFar, hnext]
    exact h.entries_succ
  · simp only [← BitVec.toNat_inj, hnext]

/-! ## START -/

/-- TOTAL holds (OUT_PERIODS + 1) * P, which is below 2^53 for both tiers (10_state.md R39). -/
theorem runTotal_toNat {s : State} (h : TierValid s.tier) :
    (runTotal s).toNat = (s.outPeriods.toNat + 1) * periodOf s := by
  have hperiods := s.outPeriods.isLt
  rw [runTotal, BitVec.toNat_ofNat, periodOf, runConsts]
  rcases tierConsts_period_of_valid h with hp | hp <;> rw [hp] <;> omega

/-- An accepted START establishes the invariant, with every count at 0. -/
theorem RunInv.of_acceptStart {s : State} (h : ConfigValid s) : RunInv (acceptStart s) where
  config := h
  total := runTotal_toNat h.1
  index := Nat.zero_le _
  seed := (show 0 < previewLength by decide).trans_le (previewLength_le_period h.1)
  stream := by simp [outputsSoFar]
  entries := by simp [outputsSoFar]

/-! ## The schedule -/

/-- The slot that a step takes is a step of the machine: it stands in the schedule, or it is the core's turn. -/
theorem StepsOnly.isStepSlot_nextSlot {s : State} (h : StepsOnly s) : isStepSlot (nextSlot s) = true := by
  unfold nextSlot
  cases hagenda : s.agenda with
  | nil => rfl
  | cons slot rest => exact h slot (by simp [hagenda])

theorem StepsOnly.takeSlot {s : State} (h : StepsOnly s) : StepsOnly (takeSlot s) :=
  fun slot hmem => h slot (List.mem_of_mem_tail hmem)

/-- The instruction that a step of such a schedule performs is a machine step. -/
theorem StepsOnly.isMachineStep_of_decode {s : State} {i : Instr} (h : StepsOnly s)
    (hreset : (nextSlot s).hwReset = false) (hdecode : decode (fetchPacket s) = .ok i) :
    isMachineStep i = true := by
  have hslot := h.isStepSlot_nextSlot
  rw [isStepSlot, hreset, Bool.false_or] at hslot
  unfold fetchPacket at hdecode
  cases hpacket : (nextSlot s).packet with
  | none =>
    rw [hpacket] at hdecode
    cases hdecode
    rfl
  | some p =>
    rw [hpacket] at hdecode hslot
    simpa [isStepPacket, show decode p = .ok i from hdecode] using hslot

/-- A machine step is a host access or SAMPLE_STEP. -/
theorem isHostAccess_or_eq_sampleStep {i : Instr} (h : isMachineStep i = true) :
    isHostAccess i = true ∨ i = .sampleStep := by
  by_cases hi : i = .sampleStep
  · exact .inr hi
  · exact .inl (by simp [isHostAccess, h, hi])

/-! ## The invariant of R56 -/

/-- A hardware reset establishes the invariant: no run is in progress and none is done. -/
theorem machineInv_afterReset {store : ConstStore} {slots : List Slot}
    (h : ∀ slot ∈ slots, isStepSlot slot = true) : MachineInv (State.afterReset store slots) where
  steps := h
  previews := Nat.zero_le _
  busy := nofun
  done := nofun

/-- `BusyInv` reads neither IE nor the bus's answer nor the schedule. -/
theorem BusyInv.frame {s : State} (h : BusyInv s) (ie : Bool) (a : BusAnswer) (slots : List Slot) :
    BusyInv { s with ie := ie, answer := a, agenda := slots } := by
  obtain ⟨config, total, index, seed, stream, entries⟩ := h
  exact ⟨config, total, index, seed, stream, entries⟩

/-- `DoneInv` reads none of the registers that a host access writes outside START. -/
theorem DoneInv.frame {s : State} (h : DoneInv s) (tier : BitVec 2) (channels : BitVec 16) (periods : BitVec 32)
    (ie : Bool) (a : BusAnswer) (slots : List Slot) :
    DoneInv { s with
      tier := tier, channels := channels, outPeriods := periods, ie := ie, answer := a, agenda := slots } := by
  obtain ⟨index, entries, stream⟩ := h
  exact ⟨index, entries, stream⟩

/-- An accepted START begins a run whose sample 0 is still to come. -/
theorem busyInv_acceptStart {s : State} (h : ConfigValid s) : BusyInv (acceptStart s) := by
  have hrun := RunInv.of_acceptStart h
  refine (busyInv_iff _).2 ⟨hrun, ?_⟩
  rw [hrun.total]
  exact Nat.mul_pos (Nat.succ_pos _) (Nat.zero_lt_of_lt hrun.seed)

namespace MachineInv

variable {s t : State}

theorem takeSlot (h : MachineInv s) : MachineInv (takeSlot s) :=
  ⟨h.steps.takeSlot, h.previews, fun hbusy => (h.busy hbusy).frame .., fun hdone => (h.done hdone).frame ..⟩

/-- Every host access keeps the invariant: what it writes outside START the invariant does not read, a rejected START
ends in ERROR, and an accepted one begins a run. -/
theorem hostEffect {i : Instr} (h : MachineInv s) (heffect : HostEffect i s t) : MachineInv t := by
  cases heffect with
  | answered =>
    exact ⟨h.steps, h.previews, fun hbusy => (h.busy hbusy).frame .., fun hdone => (h.done hdone).frame ..⟩
  | configured _ _ _ _ hidle =>
    exact ⟨h.steps, h.previews, fun hbusy => absurd hbusy hidle, fun hdone => (h.done hdone).frame ..⟩
  | rejected => exact ⟨h.steps, h.previews, nofun, nofun⟩
  | started _ _ _ _ hvalid =>
    exact ⟨h.steps, Nat.zero_le _, fun _ => (busyInv_acceptStart hvalid).frame .., nofun⟩

/-- A sample step keeps the invariant: outside a run it does nothing, and in a run it ends with `RunInv`, which is
`BusyInv` before the last sample and gives `DoneInv` after it. -/
theorem sampleStep (h : MachineInv s) (hstep : sampleStepOp s = .next t) : MachineInv t := by
  by_cases hbusy : s.fsm = .busy
  · obtain ⟨hrun, hfsm⟩ := (h.busy hbusy).sampleStep hbusy hstep
    have hagenda : t.agenda = s.agenda := (exec_consts_agenda (i := .sampleStep) hstep).2
    refine ⟨by rw [StepsOnly, hagenda]; exact h.steps, hrun.entries.trans_le (Nat.min_le_left _ _), ?_, ?_⟩
    · intro hgoes
      have hne : t.sampleIndex ≠ t.total := fun hend => by simp [hfsm, hend] at hgoes
      exact (busyInv_iff t).2 ⟨hrun, hrun.index.lt_of_ne fun heq => hne (BitVec.eq_of_toNat_eq heq)⟩
    · intro hended
      exact hrun.doneInv (by_contra fun hne => by simp [hfsm, hne] at hended)
  · rw [sampleStepOp, if_neg hbusy] at hstep
    cases hstep
    exact h

end MachineInv

/-- Settles O52: a reset establishes the invariant; a step of the schedule is a host access or a sample step, and
each keeps it. -/
theorem machineInvariantIsKept : Obligations.MachineInvariantIsKept := by
  intro s t h hstep
  rcases step_next_cases hstep with ⟨-, rfl⟩ | ⟨hreset, i, hdecode, hexec⟩
  · exact machineInv_afterReset h.steps.takeSlot
  · rcases isHostAccess_or_eq_sampleStep (h.steps.isMachineStep_of_decode hreset hdecode) with hi | rfl
    · exact h.takeSlot.hostEffect (hostEffect_of_exec hi hexec)
    · exact h.takeSlot.sampleStep hexec

/-! ## The invariants at reset -/

theorem isLimited_posZero : IsLimited posZero := by
  have hzero : scaled posZero = 0 := (scaled_eq_zero_iff _).2 (by decide)
  have hceiling : 0 ≤ scaled ceilingL := by
    rw [scaled, if_neg (by decide)]
    exact Int.natCast_nonneg _
  rw [IsLimited, hzero]
  exact ⟨by decide, scaled_nonpos (by decide), hceiling⟩

/-- Settles O51: right after reset no run is in progress or done, and the whole preview is +0.0. -/
theorem invariantsHoldAtReset : Obligations.InvariantsHoldAtReset := by
  have hpreview : ∀ k : Fin 1000, State.reset.preview[k] = posZero := fun k => Vector.getElem_replicate _
  refine ⟨machineInv_afterReset nofun, ⟨nofun, nofun⟩, fun k => ?_, ⟨by decide, by decide⟩,
    fun k hk => absurd hk (Nat.not_lt_zero _), fun k _ => hpreview k⟩
  rw [hpreview]
  exact isLimited_posZero

end Sys2Proof.Machine

/-! PROOFS, 20_memory.md. The register window: a read answers the register's value and nothing else happens (R87),
and the bytes of the window are those values in little-endian order (R84). -/

namespace Sys2Proof.Machine

/-! ## Reads and writes of a register -/

theorem exec_readInstr (r : Reg) (s : State) : exec (readInstr r) s = readRegister r s := by
  cases r <;> rfl

/-- Outside CTRL, TIER, CHANNELS and OUT_PERIODS a write is ignored (R87; 47_run_control.md R334, R353, R354). -/
theorem exec_writeInstr_of_readOnly {r : Reg} (h : r ∉ [Reg.ctrl, .tier, .channels, .outPeriods])
    (data : Word32) (s : State) : exec (writeInstr r data) s = ignoreWrite s := by
  cases r with
  | ctrl | tier | channels | outPeriods => simp at h
  | status | seed | previewCount | sampleIndexLo | sampleIndexHi | totalLo | totalHi | energyLo | energyHi
  | previewLo | previewHi | reserved => rfl

/-- No register shows the bus's last answer, which is no state of PNG-CORE (log 4). -/
@[simp] theorem regValue_answer (r : Reg) (s : State) (a : BusAnswer) :
    regValue { s with answer := a } r = regValue s r := by
  cases r <;> rfl

/-- Settles O14: a read answers `regValue`, which no answer enters, and changes the answer only; an ignored write
changes the answer only. -/
theorem readsHaveNoSideEffect : Obligations.ReadsHaveNoSideEffect := by
  refine ⟨fun s r => ⟨regValue s r, fun a => ?_⟩, fun s r data h => exec_writeInstr_of_readOnly h data s⟩
  rw [exec_readInstr, readRegister, regValue_answer, answerRead]

/-! ## The window -/

theorem isAligned_iff (off : BitVec 14) : isAligned off = true ↔ off.toNat % 4 = 0 :=
  beq_iff_eq

theorem descOffset_append (w : BitVec 2) (off : BitVec 14) : descOffset (w ++ off) = off :=
  BitVec.setWidth_append_eq_right

/-- A read descriptor selects its access by the field OFF (30_encoding.md R110). -/
theorem decode_readDesc (off : BitVec 14) :
    decode (.mmio32 (readDesc off) none) = .ok (decodeAccess off .read) := by
  obtain ⟨hbit15, hwrite⟩ := readDesc_shaped off
  have hread : descIsWrite (readDesc off) = false := hwrite.symm
  have hoff : descOffset (readDesc off) = off := descOffset_append 0#2 off
  simp only [decode, hbit15, hread, hoff, Bool.false_eq_true, if_false]

/-- The 32-bit read at an aligned offset is the read of the register there (30_encoding.md R111). -/
theorem decode_readDesc_of_aligned {off : BitVec 14} (h : off.toNat % 4 = 0) :
    decode (.mmio32 (readDesc off) none) = .ok (readInstr (Reg.ofOffset off)) := by
  rw [decode_readDesc, decodeAccess, if_pos ((isAligned_iff off).2 h)]

section Bytes

variable {off : BitVec 14} {k : Nat}

/-- The four bytes of an aligned word stay inside the window: the offset does not wrap. -/
theorem toNat_add_byteIndex (h : off.toNat % 4 = 0) (hk : k < 4) :
    (off + BitVec.ofNat 14 k).toNat = off.toNat + k := by
  have hlt := off.isLt
  rw [BitVec.toNat_add, BitVec.toNat_ofNat]
  omega

/-- Byte k of the word at an aligned offset is bits 8k+7 : 8k of that word (R84). -/
theorem windowByte_of_aligned (s : State) (h : off.toNat % 4 = 0) (hk : k < 4) :
    windowByte s (off + BitVec.ofNat 14 k) = (windowWord s off).extractLsb' (8 * k) 8 := by
  have hindex : (off + BitVec.ofNat 14 k).toNat % 4 = k := by
    rw [toNat_add_byteIndex h hk]
    omega
  rw [windowByte, hindex, BitVec.add_sub_cancel, BitVec.setWidth_ushiftRight_eq_extractLsb]

end Bytes

/-- Settles O15: the read at an aligned offset answers `windowWord`, whose bytes `windowByte` shows. -/
theorem windowIsLittleEndian : Obligations.WindowIsLittleEndian := by
  intro s off k h hk
  exact ⟨_, windowWord s off, decode_readDesc_of_aligned h, exec_readInstr _ s, windowByte_of_aligned s h hk⟩

end Sys2Proof.Machine

/-! PROOFS, 30_encoding.md. The decoder and the encoder (R110, R111, R125).

The registers and the aligned offsets stand in a one-to-one relation: `Reg.ofOffset_offset` one way,
`Reg.offset_ofOffset` the other. A 32-bit access is a register or a misaligned offset with a payload, so that both
round trips of the decoder are that relation, once, for reads and writes alike. -/

namespace Sys2Proof

/-! ## The register map -/

/-- The registers that the window holds: a preview index below 1000, a reserved offset of R123. -/
def Reg.wf : Reg → Bool
  | .previewLo k => isPreviewIndex k
  | .previewHi k => isPreviewIndex k
  | .reserved off => isReservedOffset off
  | _ => true

theorem readInstr_wf (r : Reg) : (readInstr r).wf = r.wf := by
  cases r <;> rfl

theorem writeInstr_wf (r : Reg) (data : Word32) : (writeInstr r data).wf = r.wf := by
  cases r <;> rfl

theorem isReservedOffset_iff (off : BitVec 14) :
    isReservedOffset off = true ↔ off.toNat % 4 = 0 ∧
      (off.toNat = 0x01C ∨ 0x038 ≤ off.toNat ∧ off.toNat ≤ 0xFFC ∨ 0x2F40 ≤ off.toNat) := by
  simp [isReservedOffset, Machine.isAligned_iff, or_assoc]

theorem isPreviewIndex_iff (k : BitVec 10) : isPreviewIndex k = true ↔ k.toNat < 1000 :=
  decide_eq_true_iff

theorem Reg.toNat_offset_previewLo (k : BitVec 10) : (Reg.previewLo k).offset.toNat = 0x1000 + 8 * k.toNat := by
  have hk := k.isLt
  rw [Reg.offset, BitVec.toNat_ofNat]
  omega

theorem Reg.toNat_offset_previewHi (k : BitVec 10) : (Reg.previewHi k).offset.toNat = 0x1004 + 8 * k.toNat := by
  have hk := k.isLt
  rw [Reg.offset, BitVec.toNat_ofNat]
  omega

/-! ### The registers below the preview range -/

theorem Reg.ofLowOffset_eq_none {o : Nat} (h : o = 0x01C ∨ 0x038 ≤ o) : Reg.ofLowOffset o = none := by
  unfold Reg.ofLowOffset
  repeat rw [if_neg (by omega)]

/-- The table of R112: the aligned offsets below 0x038 hold a register, except 0x01C. -/
theorem Reg.ofLowOffset_table :
    ∀ o < 0x038, (o % 4 = 0 → Reg.ofLowOffset o = none → o = 0x01C) ∧
      ∀ r ∈ Reg.ofLowOffset o, r.offset.toNat = o ∧ r.wf = true := by
  decide

theorem Reg.eq_or_le_of_ofLowOffset_eq_none {o : Nat} (haligned : o % 4 = 0) (h : Reg.ofLowOffset o = none) :
    o = 0x01C ∨ 0x038 ≤ o := by
  rcases Nat.lt_or_ge o 0x038 with hlt | hge
  · exact .inl ((Reg.ofLowOffset_table o hlt).1 haligned h)
  · exact .inr hge

theorem Reg.offset_of_ofLowOffset {o : Nat} {r : Reg} (h : Reg.ofLowOffset o = some r) :
    r.offset.toNat = o ∧ r.wf = true := by
  rcases Nat.lt_or_ge o 0x038 with hlt | hge
  · exact (Reg.ofLowOffset_table o hlt).2 r h
  · rw [Reg.ofLowOffset_eq_none (.inr hge)] at h
    cases h

/-! ### The preview range -/

theorem Reg.ofPreviewOffset_eq_none_iff {o : Nat} : Reg.ofPreviewOffset o = none ↔ ¬(0x1000 ≤ o ∧ o < 0x2F40) := by
  unfold Reg.ofPreviewOffset
  split_ifs <;> simp_all

theorem Reg.ofPreviewOffset_lo {k : BitVec 10} (h : k.toNat < 1000) :
    Reg.ofPreviewOffset (0x1000 + 8 * k.toNat) = some (.previewLo k) := by
  have hindex : (0x1000 + 8 * k.toNat - 0x1000) / 8 = k.toNat := by omega
  rw [Reg.ofPreviewOffset, if_pos (by omega), if_pos (by omega), hindex, BitVec.ofNat_toNat, BitVec.setWidth_eq]

theorem Reg.ofPreviewOffset_hi {k : BitVec 10} (h : k.toNat < 1000) :
    Reg.ofPreviewOffset (0x1004 + 8 * k.toNat) = some (.previewHi k) := by
  have hindex : (0x1004 + 8 * k.toNat - 0x1000) / 8 = k.toNat := by omega
  rw [Reg.ofPreviewOffset, if_pos (by omega), if_neg (by omega), hindex, BitVec.ofNat_toNat, BitVec.setWidth_eq]

theorem Reg.offset_of_ofPreviewOffset {o : Nat} {r : Reg} (haligned : o % 4 = 0)
    (h : Reg.ofPreviewOffset o = some r) : r.offset.toNat = o ∧ r.wf = true := by
  unfold Reg.ofPreviewOffset at h
  split_ifs at h with hrange hlow <;> cases h
  · rw [Reg.toNat_offset_previewLo, Reg.wf, isPreviewIndex_iff, BitVec.toNat_ofNat]
    omega
  · rw [Reg.toNat_offset_previewHi, Reg.wf, isPreviewIndex_iff, BitVec.toNat_ofNat]
    omega

/-! ### The whole window -/

/-- The register at the offset of a register of the window is that register (R111). -/
theorem Reg.ofOffset_offset {r : Reg} (h : r.wf = true) : Reg.ofOffset r.offset = r := by
  cases r with
  | previewLo k =>
    rw [Reg.wf, isPreviewIndex_iff] at h
    rw [Reg.ofOffset, Reg.toNat_offset_previewLo, Reg.ofLowOffset_eq_none (by omega), Reg.ofPreviewOffset_lo h]
  | previewHi k =>
    rw [Reg.wf, isPreviewIndex_iff] at h
    rw [Reg.ofOffset, Reg.toNat_offset_previewHi, Reg.ofLowOffset_eq_none (by omega), Reg.ofPreviewOffset_hi h]
  | reserved off =>
    rw [Reg.wf, isReservedOffset_iff] at h
    rw [Reg.ofOffset, Reg.offset, Reg.ofLowOffset_eq_none (by omega), Reg.ofPreviewOffset_eq_none_iff.2 (by omega)]
  | ctrl | status | tier | channels | outPeriods | seed | previewCount | sampleIndexLo | sampleIndexHi | totalLo
  | totalHi | energyLo | energyHi => rfl

/-- The register at an aligned offset is a register of the window, and it stands at that offset (R111). -/
theorem Reg.offset_ofOffset {off : BitVec 14} (haligned : off.toNat % 4 = 0) :
    (Reg.ofOffset off).offset = off ∧ (Reg.ofOffset off).wf = true := by
  rw [← BitVec.toNat_inj]
  unfold Reg.ofOffset
  cases hlow : Reg.ofLowOffset off.toNat with
  | some r => exact Reg.offset_of_ofLowOffset hlow
  | none =>
    cases hpreview : Reg.ofPreviewOffset off.toNat with
    | some r => exact Reg.offset_of_ofPreviewOffset haligned hpreview
    | none =>
      have hlow := Reg.eq_or_le_of_ofLowOffset_eq_none haligned hlow
      rw [Reg.ofPreviewOffset_eq_none_iff] at hpreview
      refine ⟨rfl, (isReservedOffset_iff off).2 ⟨haligned, ?_⟩⟩
      omega

theorem Reg.offset_aligned {r : Reg} (h : r.wf = true) : r.offset.toNat % 4 = 0 := by
  cases r with
  | previewLo k =>
    rw [Reg.toNat_offset_previewLo]
    omega
  | previewHi k =>
    rw [Reg.toNat_offset_previewHi]
    omega
  | reserved off => exact ((isReservedOffset_iff off).1 h).1
  | ctrl | status | tier | channels | outPeriods | seed | previewCount | sampleIndexLo | sampleIndexHi | totalLo
  | totalHi | energyLo | energyHi => rfl

/-! ## 32-bit accesses -/

/-- The packet of a 32-bit access at an offset: its descriptor word, and the data word of a write (R110). -/
def accessPacket (off : BitVec 14) : Payload → Packet
  | .read => .mmio32 (readDesc off) none
  | .write data => .mmio32 (writeDesc off) (some data)

/-- The instruction of a 32-bit access to a register (R112, R122, R123). -/
def accessInstr (r : Reg) : Payload → Instr
  | .read => readInstr r
  | .write data => writeInstr r data

theorem accessInstr_wf (r : Reg) (p : Payload) : (accessInstr r p).wf = r.wf := by
  cases p with
  | read => exact readInstr_wf r
  | write data => exact writeInstr_wf r data

theorem encode_accessInstr (r : Reg) (p : Payload) : encode (accessInstr r p) = accessPacket r.offset p := by
  cases p <;> cases r <;> rfl

theorem busErrMisaligned_wf_iff (off : BitVec 14) (p : Payload) :
    (Instr.busErrMisaligned off p).wf = true ↔ off.toNat % 4 ≠ 0 := by
  simp [Instr.wf, ← Machine.isAligned_iff]

theorem encode_busErrMisaligned (off : BitVec 14) (p : Payload) :
    encode (.busErrMisaligned off p) = accessPacket off p := by
  cases p <;> rfl

theorem decodeAccess_of_aligned {off : BitVec 14} (h : off.toNat % 4 = 0) (p : Payload) :
    decodeAccess off p = accessInstr (Reg.ofOffset off) p := by
  cases p <;> exact if_pos ((Machine.isAligned_iff off).2 h)

theorem decodeAccess_of_misaligned {off : BitVec 14} (h : off.toNat % 4 ≠ 0) (p : Payload) :
    decodeAccess off p = .busErrMisaligned off p := by
  cases p <;> exact if_neg (mt (Machine.isAligned_iff off).1 h)

/-- A write descriptor with its data word selects its access by the field OFF (R110). -/
theorem decode_writeDesc (off : BitVec 14) (data : Word32) :
    decode (.mmio32 (writeDesc off) (some data)) = .ok (decodeAccess off (.write data)) := by
  obtain ⟨hbit15, hwrite⟩ := writeDesc_shaped off data
  have hwrite : descIsWrite (writeDesc off) = true := hwrite.symm
  have hoff : descOffset (writeDesc off) = off := Machine.descOffset_append 1#2 off
  simp only [decode, hbit15, hwrite, hoff, Bool.false_eq_true, if_false]

theorem decode_accessPacket (off : BitVec 14) (p : Payload) :
    decode (accessPacket off p) = .ok (decodeAccess off p) := by
  cases p with
  | read => exact Machine.decode_readDesc off
  | write data => exact decode_writeDesc off data

/-- The access to a register of the window is decoded from its packet. -/
theorem decode_accessPacket_offset {r : Reg} (h : r.wf = true) (p : Payload) :
    decode (accessPacket r.offset p) = .ok (accessInstr r p) := by
  rw [decode_accessPacket, decodeAccess_of_aligned (Reg.offset_aligned h), Reg.ofOffset_offset h]

theorem decode_readPacket {r : Reg} (h : (readInstr r).wf = true) : decode (readPacket r) = .ok (readInstr r) :=
  decode_accessPacket_offset ((readInstr_wf r).symm.trans h) .read

theorem decode_writePacket {r : Reg} {data : Word32} (h : (writeInstr r data).wf = true) :
    decode (writePacket r data) = .ok (writeInstr r data) :=
  decode_accessPacket_offset ((writeInstr_wf r data).symm.trans h) (.write data)

/-- What an access decodes to is well-formed, and its packet is the packet of the access. -/
theorem encode_decodeAccess (off : BitVec 14) (p : Payload) :
    encode (decodeAccess off p) = accessPacket off p ∧ (decodeAccess off p).wf = true := by
  by_cases h : off.toNat % 4 = 0
  · obtain ⟨hoff, hwf⟩ := Reg.offset_ofOffset h
    rw [decodeAccess_of_aligned h, encode_accessInstr, accessInstr_wf, hoff]
    exact ⟨rfl, hwf⟩
  · rw [decodeAccess_of_misaligned h, busErrMisaligned_wf_iff]
    exact ⟨encode_busErrMisaligned off p, h⟩

/-- A descriptor word is its two high bits and its offset (R110). -/
theorem desc_eq_append {desc : BitVec 16} {w : BitVec 2} (h15 : desc.getLsbD 15 = w.getLsbD 1)
    (h14 : desc.getLsbD 14 = w.getLsbD 0) : desc = w ++ descOffset desc := by
  refine BitVec.eq_of_getLsbD_eq fun i hi => ?_
  rw [BitVec.getLsbD_append, descOffset, BitVec.getLsbD_setWidth]
  by_cases hlow : i < 14
  · simp [hlow]
  · obtain rfl | rfl : i = 14 ∨ i = 15 := by omega
    · simpa using h14
    · simpa using h15

theorem eq_readDesc {desc : BitVec 16} (h15 : desc.getLsbD 15 = false) (h14 : descIsWrite desc = false) :
    desc = readDesc (descOffset desc) :=
  desc_eq_append (w := 0#2) h15 h14

theorem eq_writeDesc {desc : BitVec 16} (h15 : desc.getLsbD 15 = false) (h14 : descIsWrite desc = true) :
    desc = writeDesc (descOffset desc) :=
  desc_eq_append (w := 1#2) h15 h14

/-- A descriptor word and a data word that decode are the packet of an access: bit 15 is 0, and W says whether there
is a data word. -/
theorem eq_accessPacket_of_decode {desc : BitVec 16} {data : Option Word32} {i : Instr}
    (h : decode (.mmio32 desc data) = .ok i) : ∃ off p, Packet.mmio32 desc data = accessPacket off p := by
  cases h15 : desc.getLsbD 15 with
  | true =>
    simp only [decode, h15, if_true] at h
    cases h
  | false =>
    simp only [decode, h15, Bool.false_eq_true, if_false] at h
    cases h14 : descIsWrite desc <;> rw [h14] at h <;> cases data
    case false.none => exact ⟨_, .read, congrArg (Packet.mmio32 · none) (eq_readDesc h15 h14)⟩
    case true.some d => exact ⟨_, .write d, congrArg (Packet.mmio32 · (some d)) (eq_writeDesc h15 h14)⟩
    case false.some | true.none => cases h

/-! ## Core operations -/

/-- A core operation's packet is the id that it is decoded from (R125). -/
theorem encode_decodeCoreOp {id : Byte} {i : Instr} (h : decodeCoreOp id = .ok i) :
    encode i = .coreOp id ∧ i.wf = true := by
  unfold decodeCoreOp at h
  split at h <;> cases h
  all_goals exact ⟨congrArg Packet.coreOp (BitVec.eq_of_toNat_eq (Eq.symm ‹_›)), rfl⟩

/-! ## The round trips -/

/-- Settles O1: an access to a register is decoded from the packet of its offset, a misaligned one from that of its
own offset; the rest are fixed words. -/
theorem decodeOfEncodeIsIdentity : Obligations.DecodeOfEncodeIsIdentity := by
  intro i hwf
  cases i
  case rd32Ctrl | rd32Status | rd32Tier | rd32Channels | rd32OutPeriods | rd32Seed | rd32PreviewCount
      | rd32SampleIndexLo | rd32SampleIndexHi | rd32TotalLo | rd32TotalHi | rd32EnergyLo | rd32EnergyHi
      | rd32PreviewLo | rd32PreviewHi | rd32Reserved =>
    exact decode_readPacket hwf
  case wr32Ctrl | wr32Status | wr32Tier | wr32Channels | wr32OutPeriods | wr32Seed | wr32PreviewCount
      | wr32SampleIndexLo | wr32SampleIndexHi | wr32TotalLo | wr32TotalHi | wr32EnergyLo | wr32EnergyHi
      | wr32PreviewLo | wr32PreviewHi | wr32Reserved =>
    exact decode_writePacket hwf
  case busErrMisaligned off p =>
    rw [busErrMisaligned_wf_iff] at hwf
    rw [encode_busErrMisaligned, decode_accessPacket, decodeAccess_of_misaligned hwf]
  case busErrWidth | prngStep | prngMap | pinkStep | bqHp1 | bqHp2 | bqLp1 | bqLp2 | limit | energyAcc | previewCap
      | pcmConv | pcmEmit | sampleStep | runEnd | reservedCoreOp14 | reservedCoreOp15 => rfl

/-- Settles O2: a packet that decodes is the packet of an access, an access of a width without a descriptor, or the
id of a core operation. -/
theorem encodeOfDecodeIsIdentity : Obligations.EncodeOfDecodeIsIdentity := by
  intro packet i h
  cases packet with
  | mmio32 desc data =>
    obtain ⟨off, p, hpacket⟩ := eq_accessPacket_of_decode h
    rw [hpacket, decode_accessPacket] at h
    cases h
    rw [hpacket]
    exact encode_decodeAccess off p
  | mmioOther width dir off =>
    cases h
    exact ⟨rfl, rfl⟩
  | coreOp id => exact encode_decodeCoreOp h

/-- Settles O3: the register at an aligned offset is `Reg.ofOffset`, and `Reg.ofOffset_offset` says that it is the
only one. -/
theorem descriptorSelectsOneAccess : Obligations.DescriptorSelectsOneAccess := by
  intro off data
  refine ⟨fun hmis => ?_, fun haligned => ?_⟩
  · have hdecode (p : Payload) : decode (accessPacket off p) = .ok (.busErrMisaligned off p) := by
      rw [decode_accessPacket, decodeAccess_of_misaligned hmis]
    exact ⟨hdecode .read, hdecode (.write data)⟩
  · have hdecode (p : Payload) : decode (accessPacket off p) = .ok (accessInstr (Reg.ofOffset off) p) := by
      rw [decode_accessPacket, decodeAccess_of_aligned haligned]
    obtain ⟨hoff, hwf⟩ := Reg.offset_ofOffset haligned
    refine ⟨Reg.ofOffset off, hoff, (readInstr_wf _).trans hwf, hdecode .read, hdecode (.write data), ?_⟩
    intro r hr hrwf
    rw [readInstr_wf] at hrwf
    rw [← hr, Reg.ofOffset_offset hrwf]

/-- Settles O4: closed words of each packet form, evaluated. -/
theorem specWordsDecode : Obligations.SpecWordsDecode := by
  refine ⟨?_, ?_, ?_, ?_, ?_, ?_, ?_, ?_, ?_, ?_⟩ <;> decide

/-- Settles O43: the meaning of either id is the refusal, whatever the state. -/
theorem reservedCoreOpsAreNeverPerformed : Obligations.ReservedCoreOpsAreNeverPerformed :=
  fun _ => ⟨rfl, rfl⟩

end Sys2Proof

/-! PROOFS, 46_pcm_formatter.md. The bytes of the output: the frame of a sample (R292; 30_encoding.md R126, R127) and
the container's header (R296 to R300; 30_encoding.md R128). -/

namespace Sys2Proof.Machine

/-! ## The frame -/

/-- The three bytes of a channel, the last one highest, are bits 31:8 of the sample (R126). -/
theorem sampleBytes_joined (n : Word32) :
    (n.extractLsb' 24 8 ++ n.extractLsb' 16 8 ++ n.extractLsb' 8 8 : BitVec 24) = n.extractLsb' 8 24 := by
  have hhigh : (n.extractLsb' 24 8 ++ n.extractLsb' 16 8 : BitVec 16) = n.extractLsb' 16 16 :=
    BitVec.extractLsb'_append_extractLsb'_eq_extractLsb' rfl
  rw [hhigh]
  exact BitVec.extractLsb'_append_extractLsb'_eq_extractLsb' rfl

/-- Bits 31:8 as a signed number are floor(n / 256) (R127). -/
theorem toInt_extractLsb'_eq_floor (n : Word32) : (n.extractLsb' 8 24).toInt = ⌊(n.toInt : Rat) / 256⌋ := by
  have hfloor : ⌊(n.toInt : Rat) / 256⌋ = n.toInt / 256 := by
    exact_mod_cast Rat.floor_intCast_div_natCast n.toInt 256
  have hlt := n.isLt
  rw [hfloor, BitVec.toInt_eq_toNat_cond, BitVec.toInt_eq_toNat_cond, BitVec.extractLsb'_toNat,
    Nat.shiftRight_eq_div_pow]
  omega

/-- Every channel's triple of a frame is the sample's three bytes (R292). -/
theorem frameBytes_channel (n : Word32) {c channels : Nat} (h : c < channels) :
    ((frameBytes n channels).drop (3 * c)).take 3 = sampleBytes n := by
  obtain ⟨rest, rfl⟩ : ∃ rest, channels = c + (1 + rest) := ⟨channels - (c + 1), by omega⟩
  have hsplit : frameBytes n (c + (1 + rest)) = frameBytes n c ++ (sampleBytes n ++ frameBytes n rest) := by
    simp [frameBytes, List.replicate_add]
  rw [hsplit, List.drop_left' (length_frameBytes n c)]
  exact List.take_left' rfl

/-- Settles O39: each triple is the sample's three bytes, which hold its bits 31:8. -/
theorem frameHoldsFloorOfSample : Obligations.FrameHoldsFloorOfSample := by
  refine fun n channels => ⟨length_frameBytes n channels, fun c hc => ⟨_, _, _, frameBytes_channel n hc, ?_⟩⟩
  rw [sampleBytes_joined, toInt_extractLsb'_eq_floor]

/-! ## Little-endian fields -/

theorem length_leBytes (n v : Nat) : (leBytes n v).length = n := by
  simp [leBytes]

theorem drop_leBytes {n k : Nat} (h : n ≤ k) (v : Nat) : (leBytes n v).drop k = [] :=
  List.drop_eq_nil_of_le ((length_leBytes n v).trans_le h)

theorem take_leBytes {n k : Nat} (h : n ≤ k) (v : Nat) : (leBytes n v).take k = leBytes n v :=
  List.take_of_length_le ((length_leBytes n v).trans_le h)

theorem leBytes_succ (n v : Nat) : leBytes (n + 1) v = BitVec.ofNat 8 v :: leBytes n (v / 256) := by
  simp only [leBytes, List.range_succ_eq_map, List.map_cons, List.map_map]
  congr 1
  refine List.map_congr_left fun i _ => ?_
  simp only [Function.comp, Nat.mul_succ, Nat.add_comm _ 8, Nat.shiftRight_add]
  rw [Nat.shiftRight_eq_div_pow v 8]

/-- A field of `n` bytes holds every value that fits in it (30_encoding.md R128). -/
theorem leValue_leBytes {n v : Nat} (h : v < 256 ^ n) : leValue (leBytes n v) = v := by
  induction n generalizing v with
  | zero =>
    obtain rfl : v = 0 := by omega
    rfl
  | succ n ih =>
    rw [leBytes_succ, leValue, ih (Nat.div_lt_of_lt_mul (by rwa [← pow_succ'])), BitVec.toNat_ofNat]
    exact Nat.mod_add_div v 256

theorem headerField_of_slice {bytes : List Byte} {off n v : Nat} (hslice : (bytes.drop off).take n = leBytes n v)
    (hv : v < 256 ^ n) : headerField bytes off n = v := by
  rw [headerField, hslice, leValue_leBytes hv]

/-! ## The header -/

/-- What stands at each offset of the header, whatever the configuration (30_encoding.md R128). -/
theorem headerBytes_slices {rate channels nout : Nat} {h : List Byte} (hh : h = headerBytes rate channels nout) :
    h.length = 44 ∧ h.take 4 = [0x52#8, 0x49#8, 0x46#8, 0x46#8] ∧
    (h.drop 4).take 4 = leBytes 4 (36 + dataSize channels nout) ∧
    (h.drop 8).take 8 = [0x57#8, 0x41#8, 0x56#8, 0x45#8, 0x66#8, 0x6D#8, 0x74#8, 0x20#8] ∧
    (h.drop 16).take 4 = leBytes 4 16 ∧ (h.drop 20).take 2 = leBytes 2 1 ∧
    (h.drop 22).take 2 = leBytes 2 channels ∧ (h.drop 24).take 4 = leBytes 4 rate ∧
    (h.drop 28).take 4 = leBytes 4 (rate * channels * 3) ∧ (h.drop 32).take 2 = leBytes 2 (channels * 3) ∧
    (h.drop 34).take 2 = leBytes 2 24 ∧ (h.drop 36).take 4 = [0x64#8, 0x61#8, 0x74#8, 0x61#8] ∧
    (h.drop 40).take 4 = leBytes 4 (dataSize channels nout) := by
  simp [hh, headerBytes, List.drop_append, List.take_append, length_leBytes, drop_leBytes, take_leBytes]

/-- The limits of R300, with ByteRate as the header writes it. -/
theorem headerFits_iff (rate channels nout : Nat) :
    headerFits rate channels nout = true ↔ 3 * channels ≤ 65535 ∧ rate * channels * 3 ≤ 2 ^ 32 - 1 ∧
      36 + dataSize channels nout ≤ 2 ^ 32 - 1 := by
  rw [Nat.mul_right_comm rate channels 3]
  simp only [headerFits, Bool.and_eq_true, decide_eq_true_iff, and_assoc]

/-- Settles O58: each field stands at its offset, and R300's limits are what its width holds. -/
theorem headerFieldsReadBack : Obligations.HeaderFieldsReadBack := by
  intro rate channels nout hfits h hh
  rw [headerFits_iff, dataSize] at hfits
  obtain ⟨hchannels, hrate, hdata⟩ := hfits
  obtain ⟨hlength, hriff, hchunkSize, hwaveFmt, hsubchunk1Size, hformat, hnumChannels, hsampleRate, hbyteRate,
    hblockAlign, hbits, hdataId, hsubchunk2Size⟩ := headerBytes_slices hh
  exact ⟨hlength, hriff, headerField_of_slice hchunkSize (by omega), hwaveFmt,
    headerField_of_slice hsubchunk1Size (by decide), headerField_of_slice hformat (by decide),
    headerField_of_slice hnumChannels (by omega), headerField_of_slice hsampleRate,
    headerField_of_slice hbyteRate (by omega), headerField_of_slice hblockAlign (by omega),
    headerField_of_slice hbits (by decide), hdataId, headerField_of_slice hsubchunk2Size (by omega)⟩

end Sys2Proof.Machine

/-! PROOFS, 30_encoding.md R131. The pseudo-instructions RD64 and WAIT: RD64 joins the halves that its two reads
answer; a read of STATUS ends WAIT in DONE and in ERROR, and a run that takes the sample steps that are left is in
DONE (70_reset_and_hazards.md R435). -/

namespace Sys2Proof.Machine

/-! ## Sequences of instructions -/

theorem runInstrs_cons_of_next {i : Instr} {rest : List Instr} {s u : State} (h : exec i s = .next u) :
    runInstrs (i :: rest) s = runInstrs rest u := by
  rw [runInstrs, h]

/-- A sequence that goes on has gone on at its first instruction. -/
theorem exec_next_of_runInstrs_cons {i : Instr} {rest : List Instr} {s t : State}
    (h : runInstrs (i :: rest) s = .next t) : ∃ u, exec i s = .next u ∧ runInstrs rest u = .next t := by
  rw [runInstrs] at h
  cases hexec : exec i s with
  | next u =>
    rw [hexec] at h
    exact ⟨u, rfl, h⟩
  | fault f =>
    rw [hexec] at h
    cases h
  | refused r =>
    rw [hexec] at h
    cases h

theorem runInstrs_readInstr (r : Reg) (s : State) :
    runInstrs [readInstr r] s = .next { s with answer := .rdata (regValue s r) } :=
  runInstrs_cons_of_next (exec_readInstr r s)

theorem afterTurns_succ (turns : Nat) (accesses : List Instr) :
    afterTurns (turns + 1) accesses = .sampleStep :: afterTurns turns accesses := rfl

theorem afterTurns_eq_append (turns : Nat) (accesses : List Instr) :
    afterTurns turns accesses = afterTurns turns [] ++ accesses := by
  simp [afterTurns]

/-! ## RD64 -/

theorem joinHalves_highHalf_lowHalf (v : BitVec 64) : joinHalves (highHalf v) (lowHalf v) = v := by
  rw [joinHalves, highHalf, lowHalf, BitVec.setWidth_ushiftRight_eq_extractLsb,
    BitVec.setWidth_eq_extractLsb' (by decide)]
  exact (BitVec.extractLsb'_append_extractLsb'_eq_extractLsb' rfl).trans BitVec.extractLsb'_eq_self

/-- A pair X_LO, X_HI shows the halves of its 64-bit value (20_memory.md R85). -/
theorem regValue_wideReg (s : State) (x : WideReg) :
    regValue s x.lo = lowHalf (wideValue s x) ∧ regValue s x.hi = highHalf (wideValue s x) := by
  cases x <;> exact ⟨rfl, rfl⟩

theorem rd64Run_zero (x : WideReg) (s : State) :
    rd64Run x 0 s = some (wideValue s x, { s with answer := .rdata (regValue s x.hi) }) := by
  obtain ⟨hlo, hhi⟩ := regValue_wideReg s x
  have hturns : afterTurns 0 [readInstr x.hi] = [readInstr x.hi] := rfl
  simp only [rd64Run, hturns, runInstrs_readInstr, readData, regValue_answer, hlo, hhi, joinHalves_highHalf_lowHalf]

/-! ## WAIT -/

/-- The mask 0x6 of WAIT is bits 1 and 2. -/
theorem waitEnds_eq (w : Word32) : waitEnds w = (w.getLsbD 1 || w.getLsbD 2) := by
  have hmask : 0x6#32 = BitVec.twoPow 32 1 ||| BitVec.twoPow 32 2 := by decide
  rw [waitEnds, hmask, BitVec.and_or_distrib_left, BitVec.and_twoPow, BitVec.and_twoPow]
  cases w.getLsbD 1 <;> cases w.getLsbD 2 <;> rfl

/-- Bits 1 and 2 of STATUS are DONE and ERR (30_encoding.md R114). -/
theorem waitEnds_statusWord (s : State) : waitEnds (statusWord s) = (doneBit s || errBit s) := by
  rw [waitEnds_eq]
  simp only [statusWord, BitVec.getLsbD_setWidth, BitVec.getLsbD_append]
  simp

/-- WAIT's next read, after sample steps that lead to `t`, ends it where `t` is in DONE or ERROR. -/
theorem waitRun_cons {turns : Nat} {s t : State} (h : runInstrs (afterTurns turns []) s = .next t)
    (rest : List Nat) :
    waitRun (turns :: rest) s =
      if doneBit t || errBit t then some (.next { t with answer := .rdata (statusWord t) })
      else waitRun rest { t with answer := .rdata (statusWord t) } := by
  have hread : runInstrs (afterTurns turns [.rd32Status]) s = .next { t with answer := .rdata (statusWord t) } := by
    rw [afterTurns_eq_append, runInstrs_append_of_next h]
    exact runInstrs_readInstr .status t
  simp only [waitRun, hread, readData, Option.any_some, waitEnds_statusWord]

/-! ### The sample steps that are left of a run -/

/-- Outside a run the core's turns change nothing (47_run_control.md R358). -/
theorem runInstrs_turns_of_not_busy {s : State} (h : s.fsm ≠ .busy) (turns : Nat) :
    runInstrs (afterTurns turns []) s = .next s := by
  induction turns with
  | zero => rfl
  | succ turns ih =>
    have hstep : exec .sampleStep s = .next s := if_neg h
    rw [afterTurns_succ, runInstrs_cons_of_next hstep, ih]

/-- A sample step of a run counts one sample, and ends the run or leaves its invariant. -/
theorem BusyInv.sampleStep_ends_or_keeps {s u : State} (hinv : BusyInv s) (hbusy : s.fsm = .busy)
    (hstep : sampleStepOp s = .next u) :
    u.fsm = .done ∨ u.fsm = .busy ∧ BusyInv u ∧ u.sampleIndex.toNat = s.sampleIndex.toNat + 1 ∧ u.total = s.total := by
  obtain ⟨hrun, hfsm⟩ := hinv.sampleStep hbusy hstep
  by_cases hend : u.sampleIndex = u.total
  · exact .inl (hfsm.trans (if_pos hend))
  · have hne : u.sampleIndex.toNat ≠ u.total.toNat := fun heq => hend (BitVec.eq_of_toNat_eq heq)
    refine .inr ⟨hfsm.trans (if_neg hend), (busyInv_iff u).2 ⟨hrun, hrun.index.lt_of_ne hne⟩, ?_⟩
    obtain ⟨-, rfl⟩ := sampleStepOp_next hbusy hstep
    exact ⟨nextIndex_toNat (lt_of_le_of_lt hinv.index s.total.isLt), rfl⟩

/-- A run that takes the sample steps that are left ends in DONE (70_reset_and_hazards.md R435). -/
theorem BusyInv.done_of_remaining_turns {s t : State} {turns : Nat} (hinv : BusyInv s) (hbusy : s.fsm = .busy)
    (hturns : s.total.toNat ≤ s.sampleIndex.toNat + turns) (h : runInstrs (afterTurns turns []) s = .next t) :
    t.fsm = .done := by
  induction turns generalizing s with
  | zero => exact absurd hinv.index (by omega)
  | succ turns ih =>
    rw [afterTurns_succ] at h
    obtain ⟨u, hstep, hrest⟩ := exec_next_of_runInstrs_cons h
    rcases hinv.sampleStep_ends_or_keeps hbusy hstep with hdone | ⟨hgoes, hinv', hindex, htotal⟩
    · rw [runInstrs_turns_of_not_busy (by rw [hdone]; decide)] at hrest
      cases hrest
      exact hdone
    · refine ih hinv' hgoes ?_ hrest
      rw [hindex, htotal]
      omega

/-- Settles O60: RD64 joins the two halves it reads; WAIT's next read decides on DONE or ERR, and the sample steps that
are left end the run in DONE. -/
theorem pseudoInstructionsReadAndWait : Obligations.PseudoInstructionsReadAndWait := by
  refine ⟨fun s x => ⟨_, rd64Run_zero x s, rfl⟩, fun s => ⟨fun hfsm rest => ?_, fun hfsm rest => ?_⟩, ?_⟩
  · rw [waitRun_cons (t := s) rfl, if_pos (by simpa [doneBit, errBit] using hfsm)]
  · rw [waitRun_cons (t := s) rfl, if_neg (by rcases hfsm with h | h <;> simp [doneBit, errBit, h])]
  · intro s t turns rest hinv hbusy hturns h
    have hdone := (hinv.busy hbusy).done_of_remaining_turns hbusy hturns h
    refine ⟨{ t with answer := .rdata (statusWord t) }, ?_, hdone, rfl⟩
    rw [waitRun_cons h, if_pos (by simp [doneBit, hdone])]

end Sys2Proof.Machine

/-! PROOFS, 00_scope.md. Bounds of rounded results: a binary64 value that bounds the exact result bounds the rounded
one too, and a small natural number is converted exactly (R16, R17). -/

namespace Sys2Proof.Machine

/-! ## Between two binary64 values -/

theorem magnitude_lt_of_isFinite {v : F64} (h : isFinite v = true) : magnitude v < (2 ^ 54 - 1) * 2 ^ 2044 := by
  have hfrac : fracField v < 2 ^ 52 := Nat.mod_lt _ (by decide)
  have hexp : expField v < 2 ^ 11 := Nat.mod_lt _ (by decide)
  have hne : expField v ≠ 2047 := by simpa [isFinite] using h
  have hpos : 0 < 2 ^ 2044 := by positivity
  have hpow : 2 ^ (expField v - 1) ≤ 2 ^ 2044 * 2 := by
    rw [← pow_succ]
    exact pow_le_pow_right₀ one_le_two (by omega)
  unfold magnitude
  generalize 2 ^ 2044 = p at *
  split
  · omega
  · calc (2 ^ 52 + fracField v) * 2 ^ (expField v - 1) ≤ (2 ^ 53 - 1) * (p * 2) := by gcongr; omega
      _ < (2 ^ 54 - 1) * p := by omega

/-- Rounding does not step over a binary64 value: it would be nearer to the exact result. -/
theorem IsRounded.between {r lo hi : F64} {e : Int} {den : Nat} (h : IsRounded r e den) (hden : 0 < den)
    (hlo : isFinite lo = true) (hhi : isFinite hi = true) (hle : scaled lo * den ≤ e) (hge : e ≤ scaled hi * den) :
    isFinite r = true ∧ scaled lo ≤ scaled r ∧ scaled r ≤ scaled hi := by
  have hbound {v : F64} (hv : isFinite v = true) : (scaled v * den).natAbs < (2 ^ 54 - 1) * 2 ^ 2044 * den := by
    rw [Int.natAbs_mul, natAbs_scaled, Int.natAbs_natCast]
    exact Nat.mul_lt_mul_of_pos_right (magnitude_lt_of_isFinite hv) hden
  have hlo' := hbound hlo
  have hhi' := hbound hhi
  obtain ⟨-, hunder⟩ := h
  obtain ⟨hfin, hnear⟩ := hunder (by omega)
  simp only [Int.abs_eq_natAbs] at hnear
  have hpos : (0 : Int) < den := by exact_mod_cast hden
  refine ⟨hfin, ?_, ?_⟩
  · by_contra hlt
    have hbelow := mul_lt_mul_of_pos_right (not_le.1 hlt) hpos
    have hdist := (hnear lo hlo).1
    omega
  · by_contra hlt
    have habove := mul_lt_mul_of_pos_right (not_le.1 hlt) hpos
    have hdist := (hnear hi hhi).1
    omega

theorem isRounded_fmul {a b : F64} (ha : isFinite a = true) (hb : isFinite b = true) :
    IsRounded (fmul a b) (scaled a * scaled b) unitScale :=
  (productsAreCorrectlyRounded a b ha hb).2

theorem isRounded_fsub {a b : F64} (ha : isFinite a = true) (hb : isFinite b = true) :
    IsRounded (fsub a b) (scaled a - scaled b) 1 := by
  rw [fsub_of_finite ha hb, sub_eq_add_neg, ← scaled_fneg]
  exact isRounded_finiteSum a (fneg b)

/-- A difference other than 0 is at least the least subnormal, which is nearer to it than 0 is. -/
theorem IsRounded.scaled_ne_zero {r : F64} {e : Int} (h : IsRounded r e 1) (he : e ≠ 0) (hr : isFinite r = true) :
    scaled r ≠ 0 := by
  intro hzero
  have hpos : scaled 0x0000000000000001#64 = 1 := by decide
  have hneg : scaled 0x8000000000000001#64 = -1 := by decide
  obtain ⟨hover, hunder⟩ := h
  rcases Nat.lt_or_ge e.natAbs ((2 ^ 54 - 1) * 2 ^ 2044 * 1) with hlt | hge
  · obtain ⟨-, hnear⟩ := hunder hlt
    simp only [Int.abs_eq_natAbs, hzero] at hnear
    have hup := (hnear 0x0000000000000001#64 (by decide)).1
    have hdown := (hnear 0x8000000000000001#64 (by decide)).1
    omega
  · exact absurd (hover hge) (by simp [((isFinite_iff r).1 hr).2])

/-- Only a difference from -0.0 is -0.0. -/
theorem eq_negZero_of_fsub_eq_negZero {a b : F64} (ha : isFinite a = true) (hb : isFinite b = true)
    (h : fsub a b = 0x8000000000000000#64) : a = 0x8000000000000000#64 := by
  have hround := isRounded_fsub ha hb
  rw [h] at hround
  by_cases he : scaled a - scaled b = 0
  · rw [(exactZeroSumsHaveIeeeSign a b ha hb).2 he] at h
    by_contra hne
    rw [if_neg fun ⟨hand, _⟩ => hne hand] at h
    exact absurd h (by decide)
  · exact absurd (by decide) (hround.scaled_ne_zero he (by decide))

/-! ## The conversion of a natural number -/

theorem roundQuotient_of_dvd {num den : Nat} (hden : 0 < den) (h : den ∣ num) :
    roundQuotient num den = num / den := by
  have hmod := Nat.mod_eq_zero_of_dvd h
  rcases roundQuotient_cases num den with ⟨hq, -⟩ | ⟨-, hhalf⟩ <;> omega

theorem log2_two_pow_mul_lt {i j n : Nat} (hj : 0 < j) (h : n < 2 ^ j) : (2 ^ i * n).log2 < i + j := by
  rcases Nat.eq_zero_or_pos n with rfl | hpos
  · rw [Nat.mul_zero, Nat.log2_zero]
    omega
  · rw [Nat.log2_lt (by positivity), pow_add]
    gcongr

/-- A natural number below 2^53 is converted exactly: it has no bits to round off. -/
theorem ofNatF_exact {n : Nat} (h : n < 2 ^ 53) :
    isFinite (ofNatF n) = true ∧ scaled (ofNatF n) = unitScale * n := by
  have hlog : (unitScale * n).log2 < 1074 + 53 := log2_two_pow_mul_lt (by decide) h
  have hexp : roundExp (unitScale * n) 1 ≤ 1074 := by
    rw [roundExp, Nat.div_one]
    omega
  have hfin : roundBits (unitScale * n) 1 < infBits := by
    have hsig := roundSig_le one_pos (unitScale * n)
    rw [roundBits_eq, infBits]
    omega
  have hdvd : 2 ^ roundExp (unitScale * n) 1 ∣ unitScale * n := (pow_dvd_pow 2 hexp).mul_right n
  obtain ⟨hmag, -⟩ := magnitude_packBits_roundBits one_pos false hfin
  refine ⟨isFinite_packBits hfin, ?_⟩
  rw [scaled, ofNatF, signBit_packBits (roundBits_lt _ _), hmag, roundSig, one_mul,
    roundQuotient_of_dvd (by positivity) hdvd, Nat.div_mul_cancel hdvd, if_neg (by decide), Nat.cast_mul]

end Sys2Proof.Machine

/-! PROOFS, 41_prng.md. The noise source: the seed step is a linear congruential generator of full period (R170,
R175), SEED counts the samples of a run (R174, R177), and the map to the white sample (R171, R176).

`n` steps from 0 give S times the sum of the first `n` powers of A, modulo P. S is odd and A is 1 modulo 4, so that
the sum has exactly as many factors 2 as `n` has: the sequence is back at 0 after the multiples of P, and after no
other number of steps. -/

namespace Sys2Proof.Machine

/-! ## The two tiers -/

theorem forall_tier {p : TierConsts → Prop} (h0 : p tier0Consts) (h1 : p tier1Consts) :
    ∀ c ∈ [tier0Consts, tier1Consts], p c := by
  simpa using ⟨h0, h1⟩

theorem exists_period_eq_two_pow : ∀ c ∈ [tier0Consts, tier1Consts],
    ∃ k, 0 < k ∧ k ≤ 20 ∧ c.period = 2 ^ k :=
  forall_tier ⟨19, by decide⟩ ⟨20, by decide⟩

theorem odd_increment : ∀ c ∈ [tier0Consts, tier1Consts], Odd c.increment :=
  forall_tier (by decide) (by decide)

theorem one_lt_period : ∀ c ∈ [tier0Consts, tier1Consts], 1 < c.period :=
  forall_tier (by decide) (by decide)

theorem runConsts_of_tier0 {s : State} (h : s.tier = 0#2) : runConsts s = tier0Consts := by
  rw [runConsts, h]
  rfl

theorem runConsts_of_tier1 {s : State} (h : s.tier = 1#2) : runConsts s = tier1Consts := by
  rw [runConsts, h]
  rfl

theorem runConsts_mem_of_valid {s : State} (h : TierValid s.tier) : runConsts s ∈ [tier0Consts, tier1Consts] := by
  rcases h with h | h
  · simp [runConsts_of_tier0 h]
  · simp [runConsts_of_tier1 h]

theorem HasPeriod.runConsts_mem_and_eq {s : State} {p : Nat} (h : HasPeriod s p) :
    runConsts s ∈ [tier0Consts, tier1Consts] ∧ p = (runConsts s).period := by
  rcases h with ⟨htier, rfl⟩ | ⟨htier, rfl⟩
  · exact ⟨runConsts_mem_of_valid (.inl htier), by rw [runConsts_of_tier0 htier]; rfl⟩
  · exact ⟨runConsts_mem_of_valid (.inr htier), by rw [runConsts_of_tier1 htier]; rfl⟩

/-! ## The two operations -/

theorem exec_prngStep (s : State) :
    exec .prngStep s = .next { s with seed := nextSeed (runConsts s) s.seed } := rfl

theorem exec_prngMap (s : State) :
    exec .prngMap s = .next { s with wires := { s.wires with x := whiteSample (runConsts s) s.seed } } := rfl

/-- Settles O26: the white sample of the tier's C_MAP. -/
theorem prngMapIsTwoRoundedOperations : Obligations.PrngMapIsTwoRoundedOperations := by
  refine fun s => ⟨fun h => ?_, fun h => ?_, _, exec_prngMap s⟩
  · rw [exec_prngMap, runConsts_of_tier0 h]
    rfl
  · rw [exec_prngMap, runConsts_of_tier1 h]
    rfl

/-! ## The seed step -/

/-- The sum 1 + A + ... + A^(n-1), the factor of S after `n` seed steps. -/
def lcgSum (n : Nat) : Nat :=
  ∑ i ∈ Finset.range n, lcgMultiplier ^ i

theorem lcgSum_succ (n : Nat) : lcgSum (n + 1) = lcgMultiplier * lcgSum n + 1 :=
  geom_sum_succ

theorem lcgSum_mul (n : Nat) : lcgSum n * (lcgMultiplier - 1) + 1 = lcgMultiplier ^ n :=
  geom_sum_mul_add (lcgMultiplier - 1) n

/-- The sum has as many factors 2 as the number of its terms: (A - 1) times it is A^n - 1, and A is 1 modulo 4. -/
theorem two_pow_dvd_lcgSum_iff (k n : Nat) : 2 ^ k ∣ lcgSum n ↔ 2 ^ k ∣ n := by
  have hpow : (lcgMultiplier : Int) ^ n - 1 ^ n = (lcgMultiplier - 1) * lcgSum n := by
    rw [one_pow, ← Nat.cast_pow, ← lcgSum_mul]
    push_cast [lcgMultiplier]
    ring
  have hlift := Int.two_pow_sub_pow' (x := lcgMultiplier) (y := 1) n (by decide) (by decide)
  rw [hpow, emultiplicity_mul Int.prime_two] at hlift
  have hfinite : FiniteMultiplicity (2 : Int) (lcgMultiplier - 1) := Int.finiteMultiplicity_iff.2 (by decide)
  have hcancel := ENat.add_right_injective_of_ne_top (finiteMultiplicity_iff_emultiplicity_ne_top.1 hfinite)
  exact_mod_cast emultiplicity_eq_emultiplicity_iff.1 (hcancel hlift) k

section Lcg

variable {c : TierConsts} (hc : c ∈ [tier0Consts, tier1Consts])

include hc

/-- The mask with P - 1 is the remainder by P, a power of two that SEED holds (R170). -/
theorem nextSeed_toNat (seed : BitVec 20) :
    (nextSeed c seed).toNat = (lcgMultiplier * seed.toNat + c.increment) % c.period := by
  obtain ⟨k, -, hk, hperiod⟩ := exists_period_eq_two_pow c hc
  rw [nextSeed, hperiod, Nat.and_two_pow_sub_one_eq_mod, BitVec.toNat_ofNat]
  exact Nat.mod_eq_of_lt ((Nat.mod_lt _ (by positivity)).trans_le (Nat.pow_le_pow_right (by decide) hk))

theorem nextSeed_eq_ofNat (seed : BitVec 20) :
    nextSeed c seed = BitVec.ofNat 20 ((lcgMultiplier * seed.toNat + c.increment) % c.period) := by
  rw [← nextSeed_toNat hc, BitVec.ofNat_toNat, BitVec.setWidth_eq]

/-- The seed step turns the parity of SEED: A and S are odd, and P is even. -/
theorem nextSeed_ne_self (seed : BitVec 20) : nextSeed c seed ≠ seed := by
  intro h
  obtain ⟨k, hk, -, hperiod⟩ := exists_period_eq_two_pow c hc
  obtain ⟨m, hodd⟩ := odd_increment c hc
  have heven : 2 ∣ c.period := hperiod ▸ dvd_pow_self 2 hk.ne'
  have hparity := Nat.mod_mod_of_dvd (lcgMultiplier * seed.toNat + c.increment) heven
  rw [← nextSeed_toNat hc, h, lcgMultiplier] at hparity
  omega

/-! ## The seed sequence -/

/-- `n` steps from the start value 0. -/
theorem iterate_nextSeed_toNat (n : Nat) :
    ((nextSeed c)^[n] 0#20).toNat = c.increment * lcgSum n % c.period := by
  induction n with
  | zero => simp [lcgSum]
  | succ n ih =>
    rw [Function.iterate_succ_apply', nextSeed_toNat hc, ih, lcgSum_succ, Nat.add_mod, Nat.mul_mod_mod,
      ← Nat.add_mod]
    congr 1
    ring

theorem iterate_nextSeed_lt (n : Nat) : ((nextSeed c)^[n] 0#20).toNat < c.period := by
  rw [iterate_nextSeed_toNat hc]
  exact Nat.mod_lt _ (Nat.zero_lt_of_lt (one_lt_period c hc))

/-- The sequence is back at the start value after the multiples of P steps, and after no other number. -/
theorem iterate_nextSeed_eq_zero_iff (n : Nat) : (nextSeed c)^[n] 0#20 = 0#20 ↔ c.period ∣ n := by
  obtain ⟨k, -, -, hperiod⟩ := exists_period_eq_two_pow c hc
  have hcoprime : Nat.Coprime (2 ^ k) c.increment := (Nat.coprime_two_left.2 (odd_increment c hc)).pow_left k
  rw [← BitVec.toNat_inj, iterate_nextSeed_toNat hc, BitVec.toNat_ofNat, Nat.zero_mod, ← Nat.dvd_iff_mod_eq_zero,
    hperiod, hcoprime.dvd_mul_left, two_pow_dvd_lcgSum_iff]

theorem minimalPeriod_nextSeed : Function.minimalPeriod (nextSeed c) 0#20 = c.period := by
  have hdvd (n : Nat) : Function.minimalPeriod (nextSeed c) 0#20 ∣ n ↔ c.period ∣ n := by
    rw [← Function.isPeriodicPt_iff_minimalPeriod_dvd]
    exact iterate_nextSeed_eq_zero_iff hc n
  exact Nat.dvd_antisymm ((hdvd _).2 dvd_rfl) ((hdvd _).1 dvd_rfl)

theorem iterate_nextSeed_inj {m n : Nat} (hm : m < c.period) (hn : n < c.period) :
    (nextSeed c)^[m] 0#20 = (nextSeed c)^[n] 0#20 ↔ m = n := by
  rw [← minimalPeriod_nextSeed hc] at hm hn
  exact Function.iterate_eq_iterate_iff_of_lt_minimalPeriod hm hn

/-- P different values below P are all the values below P. -/
theorem exists_iterate_nextSeed_eq {v : BitVec 20} (hv : v.toNat < c.period) :
    ∃ n < c.period, (nextSeed c)^[n] 0#20 = v := by
  have hsurj : Set.SurjOn (fun n => ((nextSeed c)^[n] 0#20).toNat) (Finset.range c.period)
      (Finset.range c.period) := by
    refine Finset.surjOn_of_injOn_of_card_le _ (fun n _ => ?_) (fun m hm n hn h => ?_) le_rfl
    · simpa using iterate_nextSeed_lt hc n
    · rw [Finset.coe_range, Set.mem_Iio] at hm hn
      exact (iterate_nextSeed_inj hc hm hn).1 (BitVec.eq_of_toNat_eq h)
  obtain ⟨n, hn, hvalue⟩ := hsurj (by simpa using hv)
  exact ⟨n, by simpa using hn, BitVec.eq_of_toNat_eq hvalue⟩

/-- The value after `n` steps from the power A^n alone: (A - 1) * SEED + S is S * A^n, modulo (A - 1) * P. -/
theorem iterate_nextSeed_of_pow {n : Nat} {v : BitVec 20} (hv : v.toNat < c.period)
    (h : c.increment * lcgMultiplier ^ n ≡ (lcgMultiplier - 1) * v.toNat + c.increment
      [MOD (lcgMultiplier - 1) * c.period]) :
    (nextSeed c)^[n] 0#20 = v := by
  have hsplit : c.increment * lcgMultiplier ^ n = (lcgMultiplier - 1) * (c.increment * lcgSum n) + c.increment := by
    rw [← lcgSum_mul]
    ring
  rw [hsplit] at h
  have hmod : c.increment * lcgSum n ≡ v.toNat [MOD c.period] :=
    (h.add_right_cancel' _).mul_left_cancel' (by decide)
  rw [← BitVec.toNat_inj, iterate_nextSeed_toNat hc, hmod, Nat.mod_eq_of_lt hv]

end Lcg

/-- Settles O25: the remainder by P of either tier, below P by the mask and of the other parity. -/
theorem prngStepIsLcg : Obligations.PrngStepIsLcg := by
  intro s
  refine ⟨fun h => ?_, fun h => ?_, ⟨_, exec_prngStep s⟩, ?_, ?_⟩
  · rw [exec_prngStep, runConsts_of_tier0 h, nextSeed_eq_ofNat (by simp)]
    rfl
  · rw [exec_prngStep, runConsts_of_tier1 h, nextSeed_eq_ofNat (by simp)]
    rfl
  · have hseed := s.seed.isLt
    omega
  · rintro p t hperiod - hexec
    rw [exec_prngStep] at hexec
    cases hexec
    obtain ⟨hc, rfl⟩ := hperiod.runConsts_mem_and_eq
    exact ⟨nextSeed_lt (Nat.zero_lt_of_lt (one_lt_period _ hc)) _, nextSeed_ne_self hc _⟩

/-- Settles O28: a value below P is met, and met once among P different ones. -/
theorem seedSequenceHasFullPeriod : Obligations.SeedSequenceHasFullPeriod := by
  refine fun c hc => ⟨minimalPeriod_nextSeed hc, fun v hv => ?_⟩
  obtain ⟨n, hn, hvalue⟩ := exists_iterate_nextSeed_eq hc hv
  exact ⟨n, ⟨hn, hvalue⟩, fun m ⟨hm, hm'⟩ => (iterate_nextSeed_inj hc hm hn).1 (hm'.trans hvalue.symm)⟩

/-! ## SEED in a run -/

namespace SeedInv

variable {s t : State}

/-- What a host access writes outside START the invariant does not read; an accepted START sets SEED and
SAMPLE_INDEX to 0 (R174). -/
theorem hostEffect {i : Instr} (h : SeedInv s) (heffect : HostEffect i s t) : SeedInv t := by
  cases heffect with
  | answered => exact ⟨h.busy, h.done⟩
  | configured _ _ _ _ hidle => exact ⟨fun hbusy => absurd hbusy hidle, h.done⟩
  | rejected => exact ⟨nofun, nofun⟩
  | started => exact ⟨fun _ => rfl, nofun⟩

/-- A sample step of a run steps SEED and SAMPLE_INDEX together, and at its end SAMPLE_INDEX = TOTAL is a multiple
of the period (R177). -/
theorem sampleStep (h : SeedInv s) (hinv : MachineInv s) (hstep : sampleStepOp s = .next t) : SeedInv t := by
  by_cases hbusy : s.fsm = .busy
  · obtain ⟨hrun, hfsm⟩ := (hinv.busy hbusy).sampleStep hbusy hstep
    have hseed : t.seed = (nextSeed (runConsts t))^[t.sampleIndex.toNat] 0#20 := by
      have hindex := nextIndex_toNat (lt_of_le_of_lt (hinv.busy hbusy).index s.total.isLt)
      obtain ⟨-, rfl⟩ := sampleStepOp_next hbusy hstep
      rw [hindex, Function.iterate_succ_apply']
      exact congrArg (nextSeed (runConsts s)) (h.busy hbusy)
    refine ⟨fun _ => hseed, fun hdone => ?_⟩
    have hend : t.sampleIndex = t.total := by_contra fun hne => by simp [hfsm, hne] at hdone
    have hc := runConsts_mem_of_valid hrun.config.1
    rw [hseed, iterate_nextSeed_eq_zero_iff hc, hend, hrun.total]
    exact dvd_mul_left _ _
  · rw [sampleStepOp, if_neg hbusy] at hstep
    cases hstep
    exact h

end SeedInv

/-- Settles O53: a reset is neither BUSY nor DONE; a host access and a sample step keep the invariant. -/
theorem seedFollowsSampleIndex : Obligations.SeedFollowsSampleIndex := by
  intro s t hinv h hstep
  have htaken : SeedInv (takeSlot s) := ⟨h.busy, h.done⟩
  rcases step_next_cases hstep with ⟨-, rfl⟩ | ⟨hreset, i, hdecode, hexec⟩
  · exact ⟨nofun, nofun⟩
  · rcases isHostAccess_or_eq_sampleStep (hinv.steps.isMachineStep_of_decode hreset hdecode) with hi | rfl
    · exact htaken.hostEffect (hostEffect_of_exec hi hexec)
    · exact htaken.sampleStep hinv.takeSlot hexec

/-! ## The white sample -/

/-- 2^-20, at most the product of any seed but 0 (R171). -/
def productFloor : F64 := 0x3EB0000000000000#64

/-- 2 - 2^-20, at least the product of any seed below P - 1 (R171). -/
def productCeiling : F64 := 0x3FFFFFFF00000000#64

/-- 1 - 2^-20, which bounds the white sample of any seed between 0 and P - 1 (R171). -/
def innerBound : F64 := 0x3FEFFFFE00000000#64

theorem scaled_oneF : scaled oneF = unitScale := by decide +kernel

theorem scaled_productFloor_pos : 0 < scaled productFloor := by decide +kernel

theorem productFloor_sub_one : scaled productFloor - scaled oneF = -scaled innerBound := by decide +kernel

theorem productCeiling_sub_one : scaled productCeiling - scaled oneF = scaled innerBound := by decide +kernel

theorem scaled_innerBound_lt : scaled innerBound < unitScale := by decide +kernel

theorem cmap_bounds : ∀ c ∈ [tier0Consts, tier1Consts],
    isFinite c.cmap = true ∧ scaled productFloor ≤ scaled c.cmap ∧
      (c.period - 2 : Int) * scaled c.cmap ≤ scaled productCeiling :=
  forall_tier (by decide +kernel) (by decide +kernel)

/-- At the ends of the range of SEED the white sample is exact (R171, R176). -/
theorem whiteSample_ends : ∀ c ∈ [tier0Consts, tier1Consts],
    whiteSample c 0#20 = fneg oneF ∧
      ∀ seed : BitVec 20, seed.toNat = c.period - 1 → whiteSample c seed = oneF := by
  have hlast {m : Nat} {v seed : BitVec 20} (hv : v.toNat = m) (h : seed.toNat = m) : seed = v :=
    BitVec.eq_of_toNat_eq (h.trans hv.symm)
  refine forall_tier ⟨by decide +kernel, fun seed h => ?_⟩ ⟨by decide +kernel, fun seed h => ?_⟩
  · rw [hlast (v := 524287#20) rfl h]
    decide +kernel
  · rw [hlast (v := 1048575#20) rfl h]
    decide +kernel

section WhiteSample

variable {c : TierConsts} (hc : c ∈ [tier0Consts, tier1Consts])

include hc

/-- Between the ends of the range of SEED the product stays clear of 0.0 and of 2.0. -/
theorem seedProduct_between {seed : BitVec 20} (hpos : 0 < seed.toNat) (hlt : seed.toNat < c.period - 1) :
    isFinite (fmul (ofNatF seed.toNat) c.cmap) = true ∧
      scaled productFloor ≤ scaled (fmul (ofNatF seed.toNat) c.cmap) ∧
      scaled (fmul (ofNatF seed.toNat) c.cmap) ≤ scaled productCeiling := by
  obtain ⟨hcmap, hlow, hhigh⟩ := cmap_bounds c hc
  obtain ⟨hfinite, hseed⟩ := ofNatF_exact (n := seed.toNat) (seed.isLt.trans (by decide))
  have hcmapPos : 0 ≤ scaled c.cmap := (scaled_productFloor_pos.trans_le hlow).le
  have hunit : (0 : Int) ≤ unitScale := Int.natCast_nonneg _
  have hround := isRounded_fmul hfinite hcmap
  rw [hseed, mul_assoc, mul_comm] at hround
  refine hround.between unitScale_pos (by decide) (by decide)
    (mul_le_mul_of_nonneg_right ?_ hunit) (mul_le_mul_of_nonneg_right ?_ hunit)
  · exact hlow.trans (le_mul_of_one_le_left hcmapPos (by omega))
  · exact (mul_le_mul_of_nonneg_right (by omega) hcmapPos).trans hhigh

/-- Between the ends of the range of SEED the white sample stays clear of -1.0 and of +1.0. -/
theorem whiteSample_between {seed : BitVec 20} (hpos : 0 < seed.toNat) (hlt : seed.toNat < c.period - 1) :
    isFinite (whiteSample c seed) = true ∧ -(unitScale : Int) < scaled (whiteSample c seed) ∧
      scaled (whiteSample c seed) < unitScale ∧ whiteSample c seed ≠ 0x8000000000000000#64 := by
  obtain ⟨hfinite, hfloor, hceiling⟩ := seedProduct_between hc hpos hlt
  have hone : isFinite oneF = true := by decide
  have hlow := productFloor_sub_one
  have hhigh := productCeiling_sub_one
  have hinner := scaled_innerBound_lt
  obtain ⟨hxfinite, hxlow, hxhigh⟩ := (isRounded_fsub hfinite hone).between (lo := fneg innerBound)
    (hi := innerBound) one_pos (by decide) (by decide) (by rw [scaled_fneg]; omega) (by omega)
  rw [scaled_fneg] at hxlow
  refine ⟨hxfinite, by rw [whiteSample]; omega, hxhigh.trans_lt hinner, fun hneg => ?_⟩
  have hproduct := scaled_productFloor_pos.trans_le hfloor
  rw [eq_negZero_of_fsub_eq_negZero hfinite hone hneg] at hproduct
  exact absurd hproduct (by decide)

/-- The white sample of every seed: -1.0 at 0, +1.0 at P - 1, and strictly between elsewhere (R176). -/
theorem whiteSample_bounds {seed : BitVec 20} (h : seed.toNat < c.period) :
    isFinite (whiteSample c seed) = true ∧ -(unitScale : Int) ≤ scaled (whiteSample c seed) ∧
      scaled (whiteSample c seed) ≤ unitScale ∧ whiteSample c seed ≠ 0x8000000000000000#64 ∧
      (whiteSample c seed = fneg oneF ↔ seed = 0#20) ∧
      (whiteSample c seed = oneF ↔ seed.toNat = c.period - 1) := by
  have hperiod := one_lt_period c hc
  obtain ⟨hfirst, hlast⟩ := whiteSample_ends c hc
  have hone := scaled_oneF
  have hunit := unitScale_pos
  by_cases hzero : seed = 0#20
  · subst hzero
    have hne : (0#20).toNat ≠ c.period - 1 := (Nat.sub_pos_of_lt hperiod).ne
    rw [hfirst, scaled_fneg]
    exact ⟨by decide, by omega, by omega, by decide, by decide, iff_of_false (by decide) hne⟩
  · have hpos : seed.toNat ≠ 0 := fun h0 => hzero (BitVec.eq_of_toNat_eq h0)
    by_cases hmax : seed.toNat = c.period - 1
    · rw [hlast seed hmax]
      exact ⟨by decide, by omega, by omega, by decide, iff_of_false (by decide) hzero, iff_of_true rfl hmax⟩
    · obtain ⟨hfinite, hlow, hhigh, hneg⟩ := whiteSample_between hc (seed := seed) (by omega) (by omega)
      refine ⟨hfinite, hlow.le, hhigh.le, hneg, iff_of_false (fun heq => ?_) hzero,
        iff_of_false (fun heq => ?_) hmax⟩
      · rw [heq, scaled_fneg, hone] at hlow
        exact hlow.false
      · rw [heq, hone] at hhigh
        exact hhigh.false

/-- One period of white samples: -1.0 at its last step, and +1.0 at the step `m` that reaches P - 1 (R176). -/
theorem whiteSample_iterate {m n : Nat} (hmpos : 0 < m) (hm : m < c.period)
    (hmax : ((nextSeed c)^[m] 0#20).toNat = c.period - 1) (hnpos : 0 < n) (hn : n ≤ c.period) :
    (whiteSample c ((nextSeed c)^[n] 0#20) = fneg oneF ↔ n = c.period) ∧
      (whiteSample c ((nextSeed c)^[n] 0#20) = oneF ↔ n = m) := by
  obtain ⟨-, -, -, -, hfirst, hlast⟩ := whiteSample_bounds hc (iterate_nextSeed_lt hc n)
  rw [hfirst, hlast, iterate_nextSeed_eq_zero_iff hc, ← hmax, BitVec.toNat_inj]
  refine ⟨⟨fun hdvd => hn.antisymm (Nat.le_of_dvd hnpos hdvd), fun heq => heq ▸ dvd_rfl⟩, ?_⟩
  rcases hn.lt_or_eq with hlt | rfl
  · exact iterate_nextSeed_inj hc hlt hm
  · have hback : (nextSeed c)^[c.period] 0#20 = (nextSeed c)^[0] 0#20 := (iterate_nextSeed_eq_zero_iff hc _).2 dvd_rfl
    rw [hback, iterate_nextSeed_inj hc hnpos hm]
    omega

end WhiteSample

/-- The steps at which the sequence of each tier reaches P - 1 (R176). -/
theorem iterate_nextSeed_tier0_max : (nextSeed tier0Consts)^[475003] 0#20 = 524287#20 :=
  iterate_nextSeed_of_pow (by simp) (by decide) (by decide +kernel)

theorem iterate_nextSeed_tier1_max : (nextSeed tier1Consts)^[335227] 0#20 = 1048575#20 :=
  iterate_nextSeed_of_pow (by simp) (by decide) (by decide +kernel)

/-- Settles O27: the bounds of every seed's sample, and the two steps of a period that reach them. -/
theorem whiteSampleReachesBoundsOncePerPeriod : Obligations.WhiteSampleReachesBoundsOncePerPeriod := by
  have hneg : (0xBFF0000000000000#64 : F64) = fneg oneF := by decide
  rw [Obligations.WhiteSampleReachesBoundsOncePerPeriod, hneg]
  refine ⟨fun c hc => ⟨(iterate_nextSeed_eq_zero_iff hc _).2 dvd_rfl, fun seed h => whiteSample_bounds hc h⟩,
    ⟨iterate_nextSeed_tier0_max, iterate_nextSeed_tier1_max⟩, fun n hpos hn => ?_, fun n hpos hn => ?_⟩
  · exact whiteSample_iterate (c := tier0Consts) (by simp) (by decide) (by decide)
      (by rw [iterate_nextSeed_tier0_max]; rfl) hpos hn
  · exact whiteSample_iterate (c := tier1Consts) (by simp) (by decide) (by decide)
      (by rw [iterate_nextSeed_tier1_max]; rfl) hpos hn

end Sys2Proof.Machine

/-! PROOFS, 42_pink.md. The pink network: with either number of registers PINK_STEP updates the registers, sums them
in index order, and reads the tap of the sample before (R191, R192). -/

namespace Sys2Proof.Machine

/-! ## The operation -/

theorem exec_pinkStep (s : State) :
    exec .pinkStep s = .next { s with
      b := pinkRegisters s.consts.pink s.b s.wires.x
      z := pinkDelay s.consts.pink s.wires.x
      wires := { s.wires with
        p := pinkSample s.consts.pink (pinkRegisters s.consts.pink s.b s.wires.x) s.z s.wires.x } } := rfl

/-! ## The registers -/

section Registers

variable (k : PinkConsts) (b : Vector F64 6) (x : F64)

/-- The new value of register `i` (R191). -/
def pinkRegister (i : Fin 6) : F64 :=
  fadd (fmul k.pa[i] b[i]) (fmul x k.pg[i])

/-- A place below NP holds a register, which is updated; a place from NP on keeps its value (R191; log 8). -/
theorem getElem_pinkRegisters (i : Fin 6) :
    (pinkRegisters k b x)[i] = if i.val < k.np.val then pinkRegister k b x i else b[i] :=
  Vector.getElem_ofFn i.isLt

variable {k}

theorem pinkRegisters_of_five (h : k.np.val = 5) :
    pinkRegisters k b x =
      #v[pinkRegister k b x 0, pinkRegister k b x 1, pinkRegister k b x 2, pinkRegister k b x 3,
        pinkRegister k b x 4, b[5]] := by
  ext i hi : 1
  refine (getElem_pinkRegisters k b x ⟨i, hi⟩).trans ?_
  rw [h]
  interval_cases i <;> rfl

theorem pinkRegisters_of_six (h : k.np.val = 6) :
    pinkRegisters k b x =
      #v[pinkRegister k b x 0, pinkRegister k b x 1, pinkRegister k b x 2, pinkRegister k b x 3,
        pinkRegister k b x 4, pinkRegister k b x 5] := by
  ext i hi : 1
  refine (getElem_pinkRegisters k b x ⟨i, hi⟩).trans ?_
  rw [h]
  interval_cases i <;> rfl

end Registers

/-! ## The sum -/

section Sum

variable {k : PinkConsts} (b0 b1 b2 b3 b4 b5 : F64)

theorem pinkSum_of_five (h : k.np.val = 5) :
    pinkSum k #v[b0, b1, b2, b3, b4, b5] = fadd (fadd (fadd (fadd b0 b1) b2) b3) b4 := by
  rw [pinkSum, h]
  rfl

theorem pinkSum_of_six (h : k.np.val = 6) :
    pinkSum k #v[b0, b1, b2, b3, b4, b5] = fadd (fadd (fadd (fadd (fadd b0 b1) b2) b3) b4) b5 := by
  rw [pinkSum, h]
  rfl

end Sum

/-- Settles O29: the registers and their sum for five and for six, and the frame for any NP. -/
theorem pinkStepUpdatesAndSums : Obligations.PinkStepUpdatesAndSums := by
  refine fun s => ⟨fun h => ?_, fun h => ?_, _, _, exec_pinkStep s⟩
  · rw [exec_pinkStep, pinkRegisters_of_five _ _ h, pinkSample, pinkSum_of_five _ _ _ _ _ _ h]
    rfl
  · rw [exec_pinkStep, pinkRegisters_of_six _ _ h, pinkSample, pinkSum_of_six _ _ _ _ _ _ h]
    rfl

end Sys2Proof.Machine

/-! PROOFS, 43_biquad.md. The band-limiting cascade: each of the four operations is one BQ_SECTION, on the delay line
and the wires of its section and the coefficients of the run's tier (R212 to R217). -/

namespace Sys2Proof.Machine

/-- The core operation of a section (R213 to R216). -/
def sectionInstr : BqSection → Instr
  | .hp1 => .bqHp1
  | .hp2 => .bqHp2
  | .lp1 => .bqLp1
  | .lp2 => .bqLp2

theorem exec_sectionInstr (sec : BqSection) (s : State) :
    exec (sectionInstr sec) s = .next (sectionStage sec s) := by
  cases sec <;> rfl

/-- The coefficients that TIER selects, by its two tiers and its reserved values (R211; log 11). -/
theorem eq_tierCoeffs {store : ConstStore} {tier : BitVec 2} {set : BqSet} (h0 : tier = 0#2 → set = store.bqTier0)
    (h1 : tier = 1#2 → set = store.bqTier1) (hreserved : 2 ≤ tier.toNat → set = Config.reservedBq tier) :
    set = tierCoeffs store tier := by
  unfold tierCoeffs
  split_ifs with htier0 htier1
  · exact h0 htier0
  · exact h1 htier1
  · exact hreserved (by bv_omega)

/-- BQ_SECTION with the coefficients `set` of the run: direct form II on the section's own delay line (R212). -/
theorem exec_sectionInstr_of_eq_tierCoeffs {s : State} {set : BqSet} (h : set = tierCoeffs s.consts s.tier)
    (sec : BqSection) :
    let c := sectionCoeffs set sec
    let d := delayLine s.bq sec
    let w := fsub (fsub (sectionInput s.wires sec) (fmul c.a1 d.w1)) (fmul c.a2 d.w2)
    exec (sectionInstr sec) s = .next { s with
      bq := setDelayLine s.bq { w1 := w, w2 := d.w1 } sec
      wires := setSectionOutput s.wires (fadd (fadd (fmul c.b0 w) (fmul c.b1 d.w1)) (fmul c.b2 d.w2)) sec } := by
  subst h
  exact exec_sectionInstr sec s

/-- Settles O30: the operation of each section is its BQ_SECTION with the coefficients of the tier. -/
theorem sectionsAreDirectFormTwo : Obligations.SectionsAreDirectFormTwo := by
  intro s set h0 h1 hreserved w out
  have hsection := exec_sectionInstr_of_eq_tierCoeffs (eq_tierCoeffs h0 h1 hreserved)
  exact ⟨hsection .hp1, hsection .hp2, hsection .lp1, hsection .lp2⟩

end Sys2Proof.Machine

/-! PROOFS, 44_limiter.md. The limiter: LIMIT clips a finite sample to the ceiling (R240, R241) and stops on any other
(R243), so that in every schedule of machine steps the preview holds limited samples only (R244) and ENERGY, a sum of
their squares, is never negative (45_accumulator.md R260).

What an instruction can do to the preview is said once (`PreviewEffect`): nothing, one capture, or the clearing by
START. Both invariants of the preview are read off it. -/

namespace Sys2Proof.Machine

/-! ## The clip -/

theorem scaled_negCeilingL_le : scaled negCeilingL ≤ scaled ceilingL := by
  obtain ⟨-, hlow, hhigh⟩ := isLimited_posZero
  exact hlow.trans hhigh

theorem isLimited_ceilingL : IsLimited ceilingL :=
  ⟨by decide, scaled_negCeilingL_le, le_rfl⟩

theorem isLimited_negCeilingL : IsLimited negCeilingL :=
  ⟨by decide, le_rfl, scaled_negCeilingL_le⟩

/-- Neither operand is a NaN, so the comparison is that of the exact values (R241). -/
theorem flt_iff_of_finite {a b : F64} (ha : isFinite a = true) (hb : isFinite b = true) :
    flt a b = true ↔ scaled a < scaled b := by
  simp [flt, ((isFinite_iff a).1 ha).1, ((isFinite_iff b).1 hb).1]

section Clip

variable {y : F64} (hy : isFinite y = true)
include hy

/-- The clip of a finite sample, by exact comparisons of values (R240, R241). -/
theorem clipSample_of_finite :
    clipSample y =
      if scaled ceilingL < scaled y then ceilingL else if scaled y < scaled negCeilingL then negCeilingL else y := by
  simp only [clipSample, flt_iff_of_finite isLimited_ceilingL.1 hy, flt_iff_of_finite hy isLimited_negCeilingL.1]

theorem clipSample_of_above (h : scaled ceilingL < scaled y) : clipSample y = ceilingL := by
  rw [clipSample_of_finite hy, if_pos h]

theorem clipSample_of_below (h : scaled y < scaled negCeilingL) : clipSample y = negCeilingL := by
  rw [clipSample_of_finite hy, if_neg (h.le.trans scaled_negCeilingL_le).not_gt, if_pos h]

theorem clipSample_of_within (hlow : scaled negCeilingL ≤ scaled y) (hhigh : scaled y ≤ scaled ceilingL) :
    clipSample y = y := by
  rw [clipSample_of_finite hy, if_neg hhigh.not_gt, if_neg hlow.not_gt]

/-- Whichever way the clip goes, its result is within the ceiling (R244). -/
theorem isLimited_clipSample : IsLimited (clipSample y) := by
  rcases lt_or_ge (scaled ceilingL) (scaled y) with habove | hhigh
  · rw [clipSample_of_above hy habove]
    exact isLimited_ceilingL
  · rcases lt_or_ge (scaled y) (scaled negCeilingL) with hbelow | hlow
    · rw [clipSample_of_below hy hbelow]
      exact isLimited_negCeilingL
    · rw [clipSample_of_within hy hlow hhigh]
      exact ⟨hy, hlow, hhigh⟩

end Clip

/-! ## LIMIT -/

theorem exec_limit_of_clipSample_eq {s : State} {v : F64} (hy : isFinite s.wires.y = true)
    (hv : clipSample s.wires.y = v) : exec .limit s = .next { s with wires := { s.wires with s := v } } := by
  rw [← hv]
  exact limitStage_of_finite hy

/-- Settles O31: each case of the clip, and the bound that they share. -/
theorem limitClipsToCeiling : Obligations.LimitClipsToCeiling := by
  intro s hy
  exact ⟨fun habove => exec_limit_of_clipSample_eq hy (clipSample_of_above hy habove),
    fun hbelow => exec_limit_of_clipSample_eq hy (clipSample_of_below hy hbelow),
    fun hlow hhigh => exec_limit_of_clipSample_eq hy (clipSample_of_within hy hlow hhigh),
    _, exec_limit_of_clipSample_eq hy rfl, isLimited_clipSample hy⟩

theorem not_isFinite_of_isNaN_or_isInf {v : F64} (h : isNaN v = true ∨ isInf v = true) : ¬isFinite v = true := by
  rw [isFinite_iff]
  rintro ⟨hnan, hinf⟩
  simp [hnan, hinf] at h

/-- The sample step of a run stops as its LIMIT does, and no stage before it writes SAMPLE_INDEX (R243). -/
theorem sampleStepOp_of_not_nextSampleFinite {s : State} (hbusy : s.fsm = .busy) (h : ¬NextSampleFinite s) :
    sampleStepOp s = .fault (.nonFinite s.sampleIndex) := by
  rcases sampleStepOp_cases s with ⟨hidle, -⟩ | ⟨-, hfinite, -⟩ | ⟨-, -, hfault⟩
  · exact absurd hbusy hidle
  · exact absurd hfinite h
  · rw [hfault, generateStages_frame s]

/-- Settles O32: LIMIT alone, and the sample step through it. -/
theorem nonFiniteSampleFaults : Obligations.NonFiniteSampleFaults := fun _ =>
  ⟨fun h => limitStage_of_not_finite (not_isFinite_of_isNaN_or_isInf h), sampleStepOp_of_not_nextSampleFinite⟩

/-! ## Sums of squares -/

/-- A number, an infinity included, whose sign bit is clear. -/
def IsNonneg (v : F64) : Prop :=
  isNaN v = false ∧ signBit v = false

theorem energyNonneg_iff (s : State) : EnergyNonneg s ↔ IsNonneg s.energy :=
  Iff.rfl

theorem isNonneg_posZero : IsNonneg posZero := by
  unfold IsNonneg
  decide

theorem scaled_nonneg {v : F64} (h : signBit v = false) : 0 ≤ scaled v := by
  simp [scaled, h]

/-- A rounded magnitude is that of a finite value or of an infinity, never that of a NaN. -/
theorem isNaN_packBits_roundBits (neg : Bool) (num den : Nat) : isNaN (packBits neg (roundBits num den)) = false := by
  have hle : roundBits num den ≤ infBits := Nat.min_le_right _ _
  rcases hle.lt_or_eq with hlt | heq
  · exact ((isFinite_iff _).1 (isFinite_packBits hlt)).1
  · have hinf := isInf_packBits_infBits (neg := neg)
    simp only [isInf, Bool.and_eq_true, beq_iff_eq] at hinf
    simp [heq, isNaN, hinf]

section Nonneg

variable {a b : F64}

/-- A finite sample times itself: the signs agree, so the product has the sign of +0.0. -/
theorem isNonneg_square (ha : isFinite a = true) : IsNonneg (fmul a a) := by
  rw [fmul_of_finite ha ha, bne_self_eq_false]
  exact ⟨isNaN_packBits_roundBits _ _ _, signBit_packBits (roundBits_lt _ _)⟩

/-- The exact sum of two values with clear signs is not negative, and a sum of 0 is +0.0. -/
theorem isNonneg_finiteSum (ha : signBit a = false) (hb : signBit b = false) : IsNonneg (finiteSum a b) := by
  obtain ⟨neg, -, heq⟩ := finiteSum_eq_packBits a b
  refine ⟨by rw [heq]; exact isNaN_packBits_roundBits _ _ _, ?_⟩
  by_cases hzero : scaled a + scaled b = 0
  · rw [finiteSum, if_pos hzero, ha]
    exact signBit_packBits (by decide)
  · have hsum := add_nonneg (scaled_nonneg ha) (scaled_nonneg hb)
    rw [signBit_finiteSum hzero, decide_eq_false_iff_not]
    exact hsum.not_gt

/-- Two infinities with clear signs do not cancel, so that no sum of such numbers is a NaN. -/
theorem isNonneg_fadd (ha : IsNonneg a) (hb : IsNonneg b) : IsNonneg (fadd a b) := by
  obtain ⟨hnana, hsa⟩ := ha
  obtain ⟨hnanb, hsb⟩ := hb
  rw [fadd, sumOrNaN, hnana, hnanb, hsa, hsb, bne_self_eq_false]
  by_cases hinfa : isInf a = true
  · simpa [hinfa] using ⟨hnana, hsa⟩
  · by_cases hinfb : isInf b = true
    · simpa [hinfa, hinfb] using ⟨hnanb, hsb⟩
    · simpa [hinfa, hinfb] using isNonneg_finiteSum hsa hsb

end Nonneg

/-! ## ENERGY -/

/-- Outside START, which clears it, no host access writes ENERGY. -/
theorem EnergyNonneg.hostEffect {i : Instr} {s t : State} (h : EnergyNonneg s) (heffect : HostEffect i s t) :
    EnergyNonneg t := by
  cases heffect with
  | answered | configured | rejected => exact h
  | started => exact isNonneg_posZero

/-- A sample step of a run adds the square of a limited sample or nothing (45_accumulator.md R260, R261). -/
theorem EnergyNonneg.sampleStep {s t : State} (h : EnergyNonneg s) (hstep : sampleStepOp s = .next t) :
    EnergyNonneg t := by
  by_cases hbusy : s.fsm = .busy
  · obtain ⟨hfinite, rfl⟩ := sampleStepOp_next hbusy hstep
    rw [energyNonneg_iff]
    dsimp only
    split
    · exact isNonneg_fadd h (isNonneg_square (isLimited_clipSample hfinite).1)
    · exact h
  · rw [sampleStepOp, if_neg hbusy] at hstep
    cases hstep
    exact h

/-! ## The preview -/

/-- What an instruction can do to the preview: nothing; one capture, of `v`, where there is room for one; or, at
START, the clearing of all of it. -/
inductive PreviewEffect (v : F64) (s t : State) : Prop
  | kept (hpreview : t.preview = s.preview) (hcount : t.previewCount = s.previewCount)
  | captured (hroom : s.previewCount.toNat < previewLength)
      (hpreview : t.preview = s.preview.setIfInBounds s.previewCount.toNat v)
      (hcount : t.previewCount = s.previewCount + 1#11)
  | cleared (hpreview : t.preview = Vector.replicate 1000 posZero) (hcount : t.previewCount = 0#11)

namespace PreviewEffect

variable {i : Instr} {s t : State} {v : F64}

/-- A capture happens only where there is room (45_accumulator.md R263). -/
theorem of_capture
    (hpreview : t.preview = if capturesPreview s then s.preview.setIfInBounds s.previewCount.toNat v else s.preview)
    (hcount : t.previewCount = if capturesPreview s then s.previewCount + 1#11 else s.previewCount) :
    PreviewEffect v s t := by
  by_cases hcap : capturesPreview s = true
  · rw [if_pos hcap] at hpreview hcount
    have hroom : s.previewCount.toNat < previewLength := by
      simp only [capturesPreview, Bool.and_eq_true, decide_eq_true_eq] at hcap
      exact hcap.2
    exact .captured hroom hpreview hcount
  · rw [if_neg hcap] at hpreview hcount
    exact .kept hpreview hcount

theorem of_hostEffect (v : F64) (h : HostEffect i s t) : PreviewEffect v s t := by
  cases h with
  | answered | configured | rejected => exact .kept rfl rfl
  | started => exact .cleared rfl rfl

/-- A sample step of a run captures the limited sample or nothing, and outside a run there is no step. -/
theorem of_sampleStepOp (h : sampleStepOp s = .next t) : ∃ v, IsLimited v ∧ PreviewEffect v s t := by
  by_cases hbusy : s.fsm = .busy
  · obtain ⟨hfinite, ht⟩ := sampleStepOp_next hbusy h
    exact ⟨_, isLimited_clipSample hfinite, of_capture (congrArg State.preview ht) (congrArg State.previewCount ht)⟩
  · rw [sampleStepOp, if_neg hbusy] at h
    cases h
    exact ⟨posZero, isLimited_posZero, .kept rfl rfl⟩

theorem of_limitStage (h : limitStage s = .next t) : PreviewEffect v s t := by
  by_cases hfinite : isFinite s.wires.y = true
  · rw [limitStage_of_finite hfinite] at h
    cases h
    exact .kept rfl rfl
  · rw [limitStage_of_not_finite hfinite] at h
    cases h

/-- Among the core operations PREVIEW_CAP alone and the sample step write the preview. -/
theorem of_coreOp (hi : isHostAccess i = false) (h : exec i s = .next t) : ∃ v, PreviewEffect v s t := by
  cases i
  case prngStep | pinkStep | bqHp1 | bqHp2 | bqLp1 | bqLp2 | runEnd =>
    cases h
    exact ⟨posZero, .kept rfl rfl⟩
  case prngMap =>
    cases h
    exact ⟨posZero, .kept (prngMapStage_preview s) (prngMapStage_previewCount s)⟩
  case limit => exact ⟨posZero, of_limitStage h⟩
  case energyAcc =>
    cases h
    exact ⟨posZero, by rw [energyStage_eq]; exact .kept rfl rfl⟩
  case previewCap =>
    cases h
    exact ⟨s.wires.s, by rw [previewStage_eq]; exact of_capture rfl rfl⟩
  case pcmConv =>
    cases h
    exact ⟨posZero, by rw [pcmConvStage_eq]; exact .kept rfl rfl⟩
  case pcmEmit =>
    cases h
    exact ⟨posZero, by rw [pcmEmitStage_eq]; exact .kept rfl rfl⟩
  case sampleStep =>
    obtain ⟨v, -, heffect⟩ := of_sampleStepOp h
    exact ⟨v, heffect⟩
  case reservedCoreOp14 | reservedCoreOp15 => cases h
  all_goals cases hi

theorem of_exec (h : exec i s = .next t) : ∃ v, PreviewEffect v s t := by
  cases hi : isHostAccess i with
  | true => exact ⟨posZero, of_hostEffect _ (hostEffect_of_exec hi h)⟩
  | false => exact of_coreOp hi h

/-- A hardware reset clears the preview, as START does (70_reset_and_hazards.md R420). -/
theorem of_hardwareReset (v : F64) (s : State) : PreviewEffect v s (hardwareReset s) :=
  .cleared rfl rfl

/-- A capture of a limited sample keeps every entry limited, and so does the clearing to +0.0. -/
theorem previewLimited (heffect : PreviewEffect v s t) (hv : IsLimited v) (h : PreviewLimited s) :
    PreviewLimited t := by
  intro k
  cases heffect with
  | kept hpreview _ =>
    rw [hpreview]
    exact h k
  | captured _ hpreview _ =>
    simp only [hpreview, Fin.getElem_fin, Vector.getElem_setIfInBounds]
    split
    · exact hv
    · exact h k
  | cleared hpreview _ =>
    simp only [hpreview, Fin.getElem_fin, Vector.getElem_replicate]
    exact isLimited_posZero

/-- A capture fills the first entry of the tail and takes it out of the tail by its count (45_accumulator.md R264). -/
theorem previewTailZero (heffect : PreviewEffect v s t) (h : PreviewTailZero s) : PreviewTailZero t := by
  intro k hk
  cases heffect with
  | kept hpreview hcount =>
    rw [hpreview]
    exact h k (hcount ▸ hk)
  | captured hroom hpreview hcount =>
    have hnext : t.previewCount.toNat = s.previewCount.toNat + 1 := by
      rw [previewLength] at hroom
      bv_omega
    simp only [hpreview, Fin.getElem_fin, Vector.getElem_setIfInBounds]
    rw [if_neg (by omega)]
    exact h k (by omega)
  | cleared hpreview _ =>
    rw [hpreview]
    exact Vector.getElem_replicate k.isLt

end PreviewEffect

/-! ## The results in every schedule -/

/-- A machine step, a host access or a sample step, keeps the bounds of the results. -/
theorem resultBounds_of_machineStep {i : Instr} {s t : State} (hi : isMachineStep i = true)
    (hpreview : PreviewLimited s) (henergy : EnergyNonneg s) (h : exec i s = .next t) :
    PreviewLimited t ∧ EnergyNonneg t := by
  rcases isHostAccess_or_eq_sampleStep hi with hhost | rfl
  · have heffect := hostEffect_of_exec hhost h
    exact ⟨(PreviewEffect.of_hostEffect posZero heffect).previewLimited isLimited_posZero hpreview,
      henergy.hostEffect heffect⟩
  · obtain ⟨v, hv, heffect⟩ := PreviewEffect.of_sampleStepOp h
    exact ⟨heffect.previewLimited hv hpreview, henergy.sampleStep h⟩

/-- Settles O54: a reset clears the results; the instruction of a machine step keeps their bounds, and any
instruction the tail of the preview. -/
theorem resultsStayWithinBounds : Obligations.ResultsStayWithinBounds := by
  refine ⟨fun s t hsteps hpreview henergy hstep => ?_, fun s t htail hstep => ?_⟩
  · rcases step_next_cases hstep with ⟨-, rfl⟩ | ⟨hreset, i, hdecode, hexec⟩
    · exact ⟨(PreviewEffect.of_hardwareReset posZero (takeSlot s)).previewLimited isLimited_posZero hpreview,
        isNonneg_posZero⟩
    · exact resultBounds_of_machineStep (s := takeSlot s) (hsteps.isMachineStep_of_decode hreset hdecode) hpreview
        henergy hexec
  · rcases step_next_cases hstep with ⟨-, rfl⟩ | ⟨-, i, -, hexec⟩
    · exact (PreviewEffect.of_hardwareReset posZero (takeSlot s)).previewTailZero htail
    · obtain ⟨v, heffect⟩ := PreviewEffect.of_exec hexec
      exact heffect.previewTailZero htail

end Sys2Proof.Machine

/-! PROOFS, 45_accumulator.md. The energy accumulator and the preview tap: the two stages (R260, R261, R263), the
capture indices of a run (R265), and the agreement of the preview with the stream (R265, R268).

Both halves of the agreement are one fact about capture indices: the entries filled so far are exactly the `k` with
`k * STRIDE` below the number of frames emitted. So the frame of a filled entry is already in the stream, which only
grows at its end, and the entry to fill next belongs to the frame that the same sample step appends. -/

namespace Sys2Proof.Machine

theorem HasPeriod.eq_periodOf {s : State} {p : Nat} (h : HasPeriod s p) : p = periodOf s :=
  h.runConsts_mem_and_eq.2

theorem not_isOutputSample_iff {s : State} : ¬isOutputSample s = true ↔ s.sampleIndex.toNat < periodOf s := by
  rw [isOutputSample_iff, not_le]

/-! ## ENERGY_ACC -/

theorem exec_energyAcc (s : State) :
    exec .energyAcc s = .next { s with
      energy := if isOutputSample s then addSquare s.energy s.wires.s else s.energy } :=
  congrArg _ (energyStage_eq s)

/-- Settles O33: SAMPLE_INDEX below P is the warm-up, and from P on the sample is an output sample. -/
theorem energyAccAddsSquareOfOutputSample : Obligations.EnergyAccAddsSquareOfOutputSample := by
  refine fun s => ⟨fun p hp hwarm => ?_, fun p hp hout => ?_, _, exec_energyAcc s⟩
  · obtain rfl := hp.eq_periodOf
    rw [exec_energyAcc, if_neg (not_isOutputSample_iff.2 hwarm)]
  · obtain rfl := hp.eq_periodOf
    rw [exec_energyAcc, if_pos ((isOutputSample_iff s).2 hout), addSquare]

/-! ## PREVIEW_CAP -/

theorem exec_previewCap_of_not_captures {s : State} (h : ¬capturesPreview s = true) :
    exec .previewCap s = .next s :=
  congrArg _ (if_neg h)

theorem exec_previewCap_of_captures {s : State} (h : capturesPreview s = true) (hroom : s.previewCount.toNat < 1000) :
    exec .previewCap s = .next { s with
      preview := s.preview.set s.previewCount.toNat s.wires.s hroom
      previewCount := s.previewCount + 1#11 } := by
  have hset : s.preview.setIfInBounds s.previewCount.toNat s.wires.s =
      s.preview.set s.previewCount.toNat s.wires.s hroom := by
    ext i hi
    rw [Vector.getElem_setIfInBounds, Vector.getElem_set]
  rw [← hset]
  exact congrArg _ (if_pos h)

/-- Settles O34: nothing is captured in the warm-up; after it, what the stride divides while there is room. -/
theorem previewCapStoresAtStride : Obligations.PreviewCapStoresAtStride := by
  refine fun s => ⟨fun p hp hwarm => ?_, fun p stride hp hout _ hstride hpos => ?_,
    _, _, congrArg _ (previewStage_eq s)⟩
  · obtain rfl := hp.eq_periodOf
    exact exec_previewCap_of_not_captures (by simp [capturesPreview, not_isOutputSample_iff.2 hwarm])
  · obtain rfl := hp.eq_periodOf
    obtain rfl : stride = strideOf s := hstride
    have hcap := capturesPreview_iff hpos
    rw [isOutputSample_iff, Nat.dvd_iff_mod_eq_zero] at hcap
    refine ⟨fun hnot => exec_previewCap_of_not_captures fun h => ?_,
      fun hmod hroom => exec_previewCap_of_captures (hcap.2 ⟨hout, hmod, hroom⟩) hroom⟩
    obtain ⟨-, hmod, hroom⟩ := hcap.1 h
    exact hnot.elim (absurd hmod) hroom.not_ge

/-! ## The capture indices of a run -/

namespace RunInv

variable {s : State}

theorem le_periodOf (h : RunInv s) : 524288 ≤ periodOf s := by
  rcases tierConsts_period_of_valid h.config.1 with hp | hp <;> rw [periodOf, runConsts, hp] <;> decide

theorem periodOf_le_noutOf (h : RunInv s) : periodOf s ≤ noutOf s := by
  rw [h.noutOf_eq]
  exact Nat.le_mul_of_pos_left _ h.outPeriods_pos

theorem le_strideOf (h : RunInv s) : 524 ≤ strideOf s :=
  calc 524 = 524288 / previewLength := rfl
    _ ≤ strideOf s := Nat.div_le_div_right (h.le_periodOf.trans h.periodOf_le_noutOf)

/-- The last of the 1000 capture indices is an output index (R265). -/
theorem last_capture_lt_noutOf (h : RunInv s) : 999 * strideOf s < noutOf s :=
  calc 999 * strideOf s
      < previewLength * strideOf s := Nat.mul_lt_mul_of_pos_right (by decide) h.strideOf_pos
    _ ≤ noutOf s := Nat.mul_div_le _ _

theorem total_eq (h : RunInv s) : s.total.toNat = noutOf s + periodOf s := by
  rw [h.total, h.noutOf_eq, Nat.succ_mul]

end RunInv

/-- Settles O35: a run has at least one period of output samples, and 1000 strides fit into them. -/
theorem captureIndicesAreOutputSamples : Obligations.CaptureIndicesAreOutputSamples := by
  intro s hinv
  obtain ⟨h, -⟩ := (busyInv_iff s).1 hinv
  exact ⟨h.le_strideOf, h.last_capture_lt_noutOf, h.noutOf_eq, h.total_eq⟩

/-! ## The filled entries -/

theorem lt_capturesBelow_iff {stride : Nat} (h : 0 < stride) (k j : Nat) :
    k < capturesBelow j stride ↔ k * stride < j := by
  rw [capturesBelow, Nat.lt_iff_add_one_le, Nat.le_div_iff_mul_le h, Nat.succ_mul]
  omega

theorem capturesBelow_mul {stride : Nat} (h : 0 < stride) (m : Nat) : capturesBelow (m * stride) stride = m :=
  eq_of_forall_lt_iff fun k => by rw [lt_capturesBelow_iff h, Nat.mul_lt_mul_right h]

namespace RunInv

variable {s : State}

/-- The frame of a filled entry has been emitted. -/
theorem capture_lt_outputsSoFar (h : RunInv s) {k : Nat} (hk : k < s.previewCount.toNat) :
    k * strideOf s < outputsSoFar s := by
  rw [h.entries] at hk
  exact (lt_capturesBelow_iff h.strideOf_pos _ _).1 (hk.trans_le (Nat.min_le_right _ _))

/-- A capture fills the entry of the output index that it happens at. -/
theorem outputsSoFar_eq_of_captures (h : RunInv s) (hcap : capturesPreview s = true) :
    outputsSoFar s = s.previewCount.toNat * strideOf s := by
  obtain ⟨-, ⟨m, hm⟩, hroom⟩ := (capturesPreview_iff h.strideOf_pos).1 hcap
  rw [Nat.mul_comm] at hm
  have hcount := h.entries
  rw [hm, capturesBelow_mul h.strideOf_pos] at hcount
  rw [hm, show s.previewCount.toNat = m by omega]

end RunInv

/-! ## The frames of a growing stream -/

section Frames

variable {s t : State} {bytes : List Byte}

theorem frameAt_of_append {j : Nat} (hchannels : t.channels = s.channels) (hpcm : t.pcmOut = s.pcmOut ++ bytes)
    (hj : 3 * s.channels.toNat * (j + 1) ≤ s.pcmOut.length) : frameAt t j = frameAt s j := by
  rw [Nat.mul_succ] at hj
  rw [frameAt, frameAt, hchannels, hpcm, List.drop_append_of_le_length (by omega),
    List.take_append_of_le_length (by rw [List.length_drop]; omega)]

theorem frameAt_of_appended_frame {n : Word32} {j : Nat} (hchannels : t.channels = s.channels)
    (hpcm : t.pcmOut = s.pcmOut ++ frameBytes n s.channels.toNat)
    (hj : s.pcmOut.length = 3 * s.channels.toNat * j) : frameAt t j = frameBytes n s.channels.toNat := by
  rw [frameAt, hchannels, hpcm, List.drop_left' hj, ← length_frameBytes n, List.take_length]

/-- An entry filled before keeps its frame while the stream grows. -/
theorem PreviewInStream.frameAt_of_filled (hstream : PreviewInStream s) (h : RunInv s)
    (hchannels : t.channels = s.channels) (hpcm : t.pcmOut = s.pcmOut ++ bytes) {k : Fin 1000}
    (hk : k.val < s.previewCount.toNat) :
    frameAt t (k.val * strideOf s) = frameBytes (pcmOfSample s.preview[k]) s.channels.toNat := by
  rw [frameAt_of_append hchannels hpcm, hstream k hk]
  rw [h.stream]
  exact Nat.mul_le_mul_left _ (h.capture_lt_outputsSoFar hk)

end Frames

/-! ## The preview agrees with the stream -/

/-- An accepted START leaves no entry filled; no other host access outside a run ends in BUSY. -/
theorem PreviewInStream.of_start {i : Instr} {s t : State} (hidle : s.fsm ≠ .busy) (heffect : HostEffect i s t)
    (hbusy : t.fsm = .busy) : PreviewInStream t := by
  cases heffect with
  | answered | configured => exact absurd hbusy hidle
  | rejected => cases hbusy
  | started => exact fun k hk => absurd hk (Nat.not_lt_zero _)

/-- What a sample step of a run does to the stream and the preview, in terms of its limited sample `v`: the output
appends the frame of `v`, and a capture stores `v` (R268). -/
theorem sampleStepOp_stream {s t : State} (hbusy : s.fsm = .busy) (hstep : sampleStepOp s = .next t) :
    ∃ v, t.channels = s.channels ∧ strideOf t = strideOf s ∧
      t.pcmOut = s.pcmOut ++ (if isOutputSample s then frameBytes (pcmOfSample v) s.channels.toNat else []) ∧
      t.preview = (if capturesPreview s then s.preview.setIfInBounds s.previewCount.toNat v else s.preview) ∧
      t.previewCount = if capturesPreview s then s.previewCount + 1#11 else s.previewCount := by
  obtain ⟨-, rfl⟩ := sampleStepOp_next hbusy hstep
  refine ⟨clipSample (generateStages s).wires.y, rfl, rfl, ?_, rfl, rfl⟩
  dsimp only
  split
  · rfl
  · exact (List.append_nil _).symm

/-- A sample step that captures does so at the output index of the frame it appends, and the entries filled before
keep theirs; without a capture there are only those. -/
theorem PreviewInStream.sampleStep {s t : State} (hstream : PreviewInStream s) (h : RunInv s) (hbusy : s.fsm = .busy)
    (hstep : sampleStepOp s = .next t) : PreviewInStream t := by
  obtain ⟨v, hchannels, hstride, hpcm, hpreview, hcount⟩ := sampleStepOp_stream hbusy hstep
  intro k hk
  rw [hstride, hchannels]
  by_cases hcap : capturesPreview s = true
  · obtain ⟨hout, -, hroom⟩ := (capturesPreview_iff h.strideOf_pos).1 hcap
    rw [if_pos hcap] at hpreview hcount
    simp only [hpreview, Fin.getElem_fin, Vector.getElem_setIfInBounds]
    split
    next hnew =>
      rw [if_pos hout] at hpcm
      rw [← hnew, ← h.outputsSoFar_eq_of_captures hcap]
      exact frameAt_of_appended_frame hchannels hpcm h.stream
    next hold =>
      refine hstream.frameAt_of_filled h hchannels hpcm ?_
      rw [previewLength] at hroom
      bv_omega
  · rw [if_neg hcap] at hpreview hcount
    rw [hpreview]
    rw [hcount] at hk
    exact hstream.frameAt_of_filled h hchannels hpcm hk

/-- Settles O55: an accepted START begins with no entry filled, and a sample step keeps the agreement. -/
theorem previewEntriesStandInStream : Obligations.PreviewEntriesStandInStream :=
  ⟨fun _ _ _ hidle hexec hbusy => .of_start hidle (hostEffect_of_exec rfl hexec) hbusy,
    fun s _ hinv hbusy hstream hexec => hstream.sampleStep ((busyInv_iff s).1 (hinv.busy hbusy)).1 hbusy hexec⟩

end Sys2Proof.Machine

/-! PROOFS, 46_pcm_formatter.md. The formatter's two stages: PCM_CONV truncates the scaled sample toward zero and
saturates (R290), which no limited sample reaches (R293), and PCM_EMIT appends one frame (R291). -/

namespace Sys2Proof.Machine

/-! ## Truncation and saturation -/

/-- Truncation divides the exact value by the unit, toward zero (00_scope.md R20). -/
theorem truncToInt_eq_tdiv (v : F64) : truncToInt v = (scaled v).tdiv unitScale := by
  rw [truncToInt, scaled]
  split
  · rw [Int.neg_tdiv, Int.ofNat_tdiv]
  · rw [Int.ofNat_tdiv]

theorem natAbs_truncToInt (v : F64) : (truncToInt v).natAbs = magnitude v / unitScale := by
  rw [truncToInt_eq_tdiv, Int.natAbs_tdiv, natAbs_scaled, Int.natAbs_natCast]
  rfl

theorem ratOf_nonneg_iff (v : F64) : 0 ≤ ratOf v ↔ 0 ≤ scaled v := by
  have hunit : (0 : Rat) < unitScale := by exact_mod_cast unitScale_pos
  rw [ratOf, le_div_iff₀ hunit, zero_mul, Int.cast_nonneg_iff]

/-- Truncation toward zero is the floor from zero on and the ceiling below it. -/
theorem truncToInt_eq_floor_or_ceil (v : F64) :
    truncToInt v = if 0 ≤ ratOf v then ⌊ratOf v⌋ else ⌈ratOf v⌉ := by
  simp only [ratOf_nonneg_iff]
  rw [truncToInt_eq_tdiv, ratOf]
  split
  next hpos =>
    rw [Int.tdiv_eq_ediv_of_nonneg hpos]
    exact (Rat.floor_intCast_div_natCast _ _).symm
  next hneg =>
    rw [Rat.ceil_intCast_div_natCast, ← Int.tdiv_eq_ediv_of_nonneg (by omega), Int.neg_tdiv, neg_neg]

theorem clampInt_eq_max_min {lo hi : Int} (h : lo ≤ hi) (n : Int) : clampInt n lo hi = max lo (min hi n) := by
  unfold clampInt
  split
  · omega
  · split <;> omega

theorem clampInt_of_mem {n lo hi : Int} (hlo : lo ≤ n) (hhi : n ≤ hi) : clampInt n lo hi = n := by
  rw [clampInt, if_neg hlo.not_gt, if_neg hhi.not_gt]

/-! ## The PCM integer -/

/-- The saturated integer fits in the 32 bits of `n`. -/
theorem toInt_pcmOfSample {v : F64} (h : isFinite v = true) :
    (pcmOfSample v).toInt = clampInt (truncToInt (fmul v pcmScale)) (-2 ^ 31) (2 ^ 31 - 1) := by
  rw [pcmOfSample, if_pos h, clampInt_eq_max_min (by decide)]
  exact BitVec.toInt_ofInt_eq_self (by decide) (by omega) (by omega)

/-- 719332802.9375, at least the magnitude of every scaled limited sample (R293). -/
def limitedScaledBound : F64 := 0x41C57012E1780000#64

theorem magnitude_limitedScaledBound_div : magnitude limitedScaledBound / unitScale = 719332802 := by decide +kernel

theorem scaled_ceilingL_mul_pcmScale_le :
    scaled ceilingL * scaled pcmScale ≤ scaled limitedScaledBound * unitScale := by decide +kernel

theorem scaled_negCeilingL : scaled negCeilingL = -scaled ceilingL := scaled_fneg ceilingL

/-- The exact product of a limited sample and the scale stays within the bound, so the rounded one does. -/
theorem magnitude_fmul_pcmScale_le {v : F64} (h : IsLimited v) :
    magnitude (fmul v pcmScale) ≤ magnitude limitedScaledBound := by
  obtain ⟨hfinite, hlow, hhigh⟩ := h
  have hscale : 0 ≤ scaled pcmScale := by decide
  have hceiling := scaled_ceilingL_mul_pcmScale_le
  rw [scaled_negCeilingL] at hlow
  have hlow' := mul_le_mul_of_nonneg_right hlow hscale
  have hhigh' := mul_le_mul_of_nonneg_right hhigh hscale
  rw [neg_mul] at hlow'
  obtain ⟨-, hfrom, hto⟩ := (isRounded_fmul hfinite (show isFinite pcmScale = true by decide)).between
    (lo := fneg limitedScaledBound) (hi := limitedScaledBound) unitScale_pos (by decide) (by decide)
    (by rw [scaled_fneg, neg_mul]; omega) (by omega)
  rw [scaled_fneg] at hfrom
  rw [← natAbs_scaled, ← natAbs_scaled]
  omega

/-- Settles O37: the truncated product is within the truncated bound, well inside the saturation limits. -/
theorem limitedSampleNeverSaturates : Obligations.LimitedSampleNeverSaturates := by
  intro v h
  have htrunc : (truncToInt (fmul v pcmScale)).natAbs ≤ 719332802 := by
    rw [natAbs_truncToInt, ← magnitude_limitedScaledBound_div]
    exact Nat.div_le_div_right (magnitude_fmul_pcmScale_le h)
  obtain ⟨hfinite, -⟩ := h
  rw [toInt_pcmOfSample hfinite, clampInt_of_mem (by omega) (by omega)]
  omega

/-! ## PCM_CONV -/

theorem exec_pcmConv (s : State) :
    exec .pcmConv s = .next { s with wires := { s.wires with
      n := if isOutputSample s then pcmOfSample s.wires.s else s.wires.n } } :=
  congrArg _ (pcmConvStage_eq s)

/-- Settles O36: SAMPLE_INDEX below P is the warm-up, and from P on `n` is the saturated truncation. -/
theorem pcmConvTruncatesAndSaturates : Obligations.PcmConvTruncatesAndSaturates := by
  refine fun s => ⟨fun p hp hwarm => ?_, fun p t hp hout hfinite ht => ?_, _, exec_pcmConv s⟩
  · obtain rfl := hp.eq_periodOf
    rw [exec_pcmConv, if_neg (not_isOutputSample_iff.2 hwarm)]
  · obtain rfl := hp.eq_periodOf
    refine ⟨pcmOfSample s.wires.s, by rw [exec_pcmConv, if_pos ((isOutputSample_iff s).2 hout)], ?_⟩
    rw [toInt_pcmOfSample hfinite, clampInt_eq_max_min (by decide), truncToInt_eq_floor_or_ceil, pcmScale, ← ht]

/-! ## PCM_EMIT -/

theorem exec_pcmEmit (s : State) :
    exec .pcmEmit s = .next { s with
      pcmOut := s.pcmOut ++ if isOutputSample s then frameBytes s.wires.n s.channels.toNat else [] } := by
  refine congrArg _ ((pcmEmitStage_eq s).trans ?_)
  split
  · rfl
  · rw [List.append_nil]

/-- Settles O38: SAMPLE_INDEX below P appends nothing, and from P on the frame of `n`. -/
theorem pcmEmitAppendsOneFrame : Obligations.PcmEmitAppendsOneFrame := by
  refine fun s => ⟨fun p hp hwarm => ?_, fun p hp hout => ?_, _, exec_pcmEmit s⟩
  · obtain rfl := hp.eq_periodOf
    rw [exec_pcmEmit, if_neg (not_isOutputSample_iff.2 hwarm), List.append_nil]
  · obtain rfl := hp.eq_periodOf
    rw [exec_pcmEmit, if_pos ((isOutputSample_iff s).2 hout), frameBytes]
    rfl

end Sys2Proof.Machine

/-! PROOFS, 47_run_control.md R330 to R354. A step and the host accesses: the slot that a step takes (R330), what each
read answers (R332 to R352), and what each write stores (R331 to R342, R353, R354).

The accesses of a register are those of its offset, so that the fixed descriptors, the preview entries and the reserved
space are decoded by the round trip of the encoder (`decode_readPacket`, `decode_writePacket`). -/

namespace Sys2Proof.Machine

/-! ## The step -/

/-- A step without a reset performs the instruction of the fetched packet at the state with the slot taken (R330). -/
theorem step_of_decode {s : State} {i : Instr} (hreset : (nextSlot s).hwReset = false)
    (hdecode : decode (fetchPacket s) = .ok i) : step s = exec i (takeSlot s) := by
  simp only [step, hreset, hdecode, Bool.false_eq_true, if_false]

/-- A step without a reset refuses a packet that is no word of PNG-CORE (log 14). -/
theorem step_of_decode_error {s : State} {e : DecodeError} (hreset : (nextSlot s).hwReset = false)
    (hdecode : decode (fetchPacket s) = .error e) : step s = .refused (.undecodable e) := by
  simp only [step, hreset, hdecode, Bool.false_eq_true, if_false]

section Agenda

variable {s : State} {slot : Slot} {rest : List Slot}

theorem nextSlot_of_agenda (h : s.agenda = slot :: rest) : nextSlot s = slot := by
  rw [nextSlot, h, List.headD_cons]

theorem fetchPacket_of_agenda (h : s.agenda = slot :: rest) : fetchPacket s = slot.packet.getD corePacket := by
  rw [fetchPacket, nextSlot_of_agenda h]

theorem takeSlot_of_agenda (h : s.agenda = slot :: rest) : takeSlot s = { s with agenda := rest } := by
  rw [takeSlot, h, List.tail_cons]

/-- The step that takes a slot without a reset. -/
theorem step_of_agenda {i : Instr} (h : s.agenda = slot :: rest) (hreset : slot.hwReset = false)
    (hdecode : decode (slot.packet.getD corePacket) = .ok i) : step s = exec i { s with agenda := rest } := by
  rw [← takeSlot_of_agenda h]
  exact step_of_decode (by rw [nextSlot_of_agenda h, hreset]) (by rw [fetchPacket_of_agenda h, hdecode])

end Agenda

/-- A table word that decodes is a packet that decodes. -/
theorem decode_packetOfBits {nbits w : Nat} {i : Instr} (h : decodeTableWord nbits w = some i) :
    decode (packetOfBits nbits w) = .ok i := by
  rw [decodeTableWord] at h
  split at h <;> cases h
  assumption

/-- Settles O5: the slot of the schedule, or the one that `withFetchWord` puts before it, holds the packet. -/
theorem stepRunsDecodedPacket : Obligations.StepRunsDecodedPacket := by
  refine ⟨fun s p rest i hagenda hdecode => step_of_agenda hagenda rfl hdecode, fun s nbits w i h => ?_,
    fun s p rest e hagenda hdecode => ?_⟩
  · exact step_of_agenda (s := s.withFetchWord nbits w) rfl rfl (decode_packetOfBits h)
  · exact step_of_decode_error (by rw [nextSlot_of_agenda hagenda])
      (by rw [fetchPacket_of_agenda hagenda, Option.getD_some, hdecode])

/-- Settles O6: after the end of the schedule, and in a slot without a packet, the packet is the core's own. -/
theorem coreTurnRunsSampleStep : Obligations.CoreTurnRunsSampleStep := by
  refine fun s => ⟨fun hend => ?_, fun rest hagenda => step_of_agenda hagenda rfl rfl⟩
  have hnext : nextSlot s = coreSlot := by rw [nextSlot, hend, List.headD_nil]
  have htake : takeSlot s = s := by rw [takeSlot, hend, List.tail_nil, ← hend]
  rw [step_of_decode (i := .sampleStep) (by rw [hnext, coreSlot]) (by rw [fetchPacket, hnext]; rfl), htake]

/-! ## Descriptor words -/

/-- The descriptor word of a read, by its number (30_encoding.md R110). -/
theorem decode_read_of_toNat {r : Reg} {desc : BitVec 16} (hwf : r.wf = true) (h : desc.toNat = r.offset.toNat) :
    decode (.mmio32 desc none) = .ok (readInstr r) := by
  have hdesc : desc = readDesc r.offset := by
    rw [← BitVec.toNat_inj, h, readDesc, BitVec.toNat_append]
    exact (Nat.zero_or _).symm
  rw [hdesc]
  exact decode_readPacket ((readInstr_wf r).trans hwf)

/-- The descriptor word of a write, by its number (30_encoding.md R110). -/
theorem decode_write_of_toNat {r : Reg} {desc : BitVec 16} (hwf : r.wf = true)
    (h : desc.toNat = 0x4000 + r.offset.toNat) (data : Word32) :
    decode (.mmio32 desc (some data)) = .ok (writeInstr r data) := by
  have hdesc : desc = writeDesc r.offset := by
    rw [← BitVec.toNat_inj, h, writeDesc, BitVec.toNat_append, ← Nat.shiftLeft_add_eq_or_of_lt r.offset.isLt]
    rfl
  rw [hdesc]
  exact decode_writePacket ((writeInstr_wf r data).trans hwf)

section PreviewWords

variable {k : BitVec 10}

theorem decode_read_previewLo (h : k.toNat < 1000) :
    decode (.mmio32 (BitVec.ofNat 16 (0x1000 + 8 * k.toNat)) none) = .ok (.rd32PreviewLo k) := by
  refine decode_read_of_toNat (r := .previewLo k) ((isPreviewIndex_iff k).2 h) ?_
  rw [Reg.toNat_offset_previewLo, BitVec.toNat_ofNat]
  omega

theorem decode_read_previewHi (h : k.toNat < 1000) :
    decode (.mmio32 (BitVec.ofNat 16 (0x1004 + 8 * k.toNat)) none) = .ok (.rd32PreviewHi k) := by
  refine decode_read_of_toNat (r := .previewHi k) ((isPreviewIndex_iff k).2 h) ?_
  rw [Reg.toNat_offset_previewHi, BitVec.toNat_ofNat]
  omega

theorem decode_write_previewLo (h : k.toNat < 1000) (data : Word32) :
    decode (.mmio32 (BitVec.ofNat 16 (0x5000 + 8 * k.toNat)) (some data)) = .ok (.wr32PreviewLo k data) := by
  refine decode_write_of_toNat (r := .previewLo k) ((isPreviewIndex_iff k).2 h) ?_ data
  rw [Reg.toNat_offset_previewLo, BitVec.toNat_ofNat]
  omega

theorem decode_write_previewHi (h : k.toNat < 1000) (data : Word32) :
    decode (.mmio32 (BitVec.ofNat 16 (0x5004 + 8 * k.toNat)) (some data)) = .ok (.wr32PreviewHi k data) := by
  refine decode_write_of_toNat (r := .previewHi k) ((isPreviewIndex_iff k).2 h) ?_ data
  rw [Reg.toNat_offset_previewHi, BitVec.toNat_ofNat]
  omega

end PreviewWords

/-! ## Reads -/

theorem lowHalf_eq_extractLsb' (v : BitVec 64) : lowHalf v = v.extractLsb' 0 32 :=
  BitVec.setWidth_eq_extractLsb' (by decide)

theorem highHalf_eq_extractLsb' (v : BitVec 64) : highHalf v = v.extractLsb' 32 32 :=
  BitVec.setWidth_ushiftRight_eq_extractLsb

/-- STATUS, bit by bit (30_encoding.md R114; 60_exceptions.md R391). -/
theorem getLsbD_statusWord (s : State) (k : Nat) :
    (statusWord s).getLsbD k =
      if k = 0 then busyBit s else if k = 1 then doneBit s else if k = 2 then errBit s else if k = 3 then false
      else if k < 8 then s.errCode.getLsbD (k - 4) else if k = 8 then irqLevel s else false := by
  simp only [statusWord, BitVec.getLsbD_setWidth, BitVec.getLsbD_append, BitVec.getLsbD_ofBool]
  grind

theorem extractLsb'_statusWord_errCode (s : State) : (statusWord s).extractLsb' 4 4 = s.errCode := by
  ext j hj
  rw [BitVec.getElem_extractLsb', getLsbD_statusWord, ← BitVec.getLsbD_eq_getElem]
  grind

/-- CTRL, bit by bit (R332). -/
theorem getLsbD_ctrlWord (s : State) (k : Nat) : (ctrlWord s).getLsbD k = if k = 1 then s.ie else false := by
  simp only [ctrlWord, BitVec.getLsbD_setWidth, BitVec.getLsbD_append, BitVec.getLsbD_ofBool]
  grind

/-- Settles O9: the reads answer STATUS and CTRL, bit by bit. -/
theorem statusAndCtrlReadTheirBits : Obligations.StatusAndCtrlReadTheirBits := by
  refine ⟨decode_readPacket (r := .status) rfl, decode_readPacket (r := .ctrl) rfl, fun s =>
    ⟨⟨statusWord s, exec_readInstr .status s, getLsbD_statusWord s 0, getLsbD_statusWord s 1, getLsbD_statusWord s 2,
      getLsbD_statusWord s 3, extractLsb'_statusWord_errCode s, (getLsbD_statusWord s 8).trans ?_, fun k hk => ?_⟩,
    ⟨ctrlWord s, exec_readInstr .ctrl s, getLsbD_ctrlWord s 1, fun k hk => ?_⟩⟩⟩
  · exact congrArg (s.ie && ·) (Bool.decide_or ..).symm
  · rw [getLsbD_statusWord]
    grind
  · rw [getLsbD_ctrlWord, if_neg hk]

/-- Settles O10: each register is narrower than RDATA, so that its zero extension keeps its number. -/
theorem smallRegistersReadZeroExtended : Obligations.SmallRegistersReadZeroExtended := by
  refine ⟨⟨decode_readPacket (r := .tier) rfl, decode_readPacket (r := .channels) rfl,
    decode_readPacket (r := .outPeriods) rfl, decode_readPacket (r := .seed) rfl,
    decode_readPacket (r := .previewCount) rfl⟩, fun s => ⟨⟨_, exec_readInstr .tier s, ?_⟩,
    ⟨_, exec_readInstr .channels s, ?_⟩, exec_readInstr .outPeriods s, ⟨_, exec_readInstr .seed s, ?_⟩,
    _, exec_readInstr .previewCount s, ?_⟩⟩ <;>
  exact BitVec.toNat_setWidth_of_le (by decide)

/-- Settles O11: `lowHalf` and `highHalf` are bits 31:0 and 63:32. -/
theorem wideRegistersReadInHalves : Obligations.WideRegistersReadInHalves := by
  refine ⟨⟨decode_readPacket (r := .sampleIndexLo) rfl, decode_readPacket (r := .sampleIndexHi) rfl,
    decode_readPacket (r := .totalLo) rfl, decode_readPacket (r := .totalHi) rfl,
    decode_readPacket (r := .energyLo) rfl, decode_readPacket (r := .energyHi) rfl⟩, fun s => ?_⟩
  simp only [← lowHalf_eq_extractLsb', ← highHalf_eq_extractLsb']
  exact ⟨exec_readInstr .sampleIndexLo s, exec_readInstr .sampleIndexHi s, exec_readInstr .totalLo s,
    exec_readInstr .totalHi s, exec_readInstr .energyLo s, exec_readInstr .energyHi s⟩

/-- Settles O12: an index below 1000 is an entry, whose halves the two reads answer. -/
theorem previewEntriesReadInHalves : Obligations.PreviewEntriesReadInHalves := by
  intro s k h
  have hentry : s.preview[k.toNat] = previewEntry s k.toNat := (dif_pos h).symm
  rw [hentry, ← lowHalf_eq_extractLsb', ← highHalf_eq_extractLsb']
  exact ⟨decode_read_previewLo h, decode_read_previewHi h, exec_readInstr (.previewLo k) s,
    exec_readInstr (.previewHi k) s⟩

/-! ## Writes -/

/-- Settles O13: such an offset is reserved, its register reads 0 and its write is ignored. -/
theorem reservedSpaceReadsZeroIgnoresWrites : Obligations.ReservedSpaceReadsZeroIgnoresWrites := by
  intro s off data
  refine ⟨fun haligned hrange => ?_, exec_readInstr (.reserved off) s, rfl⟩
  have hwf := (isReservedOffset_iff off).2 ⟨haligned, hrange⟩
  exact ⟨decode_readPacket (r := .reserved off) hwf, decode_writePacket (r := .reserved off) hwf⟩

/-- Settles O16: the words are those of the read-only registers, whose writes are ignored. -/
theorem readOnlyRegistersIgnoreWrites : Obligations.ReadOnlyRegistersIgnoreWrites := by
  refine ⟨fun d => ⟨decode_writePacket (r := .status) rfl, decode_writePacket (r := .seed) rfl,
    decode_writePacket (r := .previewCount) rfl, decode_writePacket (r := .sampleIndexLo) rfl,
    decode_writePacket (r := .sampleIndexHi) rfl, decode_writePacket (r := .totalLo) rfl,
    decode_writePacket (r := .totalHi) rfl, decode_writePacket (r := .energyLo) rfl,
    decode_writePacket (r := .energyHi) rfl,
    fun k hk => ⟨decode_write_previewLo hk d, decode_write_previewHi hk d⟩⟩, fun s d k i hi => ?_⟩
  have hwrite : i ∈ [Reg.status, .seed, .previewCount, .sampleIndexLo, .sampleIndexHi, .totalLo, .totalHi, .energyLo,
      .energyHi, .previewLo k, .previewHi k].map (writeInstr · d) := hi
  obtain ⟨r, hr, rfl⟩ := List.mem_map.1 hwrite
  refine exec_writeInstr_of_readOnly (fun hwritable => ?_) d s
  simp only [List.mem_cons, List.not_mem_nil, or_false] at hwritable
  rcases hwritable with rfl | rfl | rfl | rfl <;> simp at hr

/-! ### The configuration -/

theorem writeConfig_of_busy {update : State → State} {s : State} (h : s.fsm = .busy) :
    writeConfig update s = .next { s with answer := .written } := by
  rw [writeConfig, configure_of_busy h, answerWrite]

theorem writeConfig_of_not_busy {update : State → State} {s : State} (h : s.fsm ≠ .busy) :
    writeConfig update s = .next (answerWrite (update s)) := by
  rw [writeConfig, configure_of_not_busy h]

theorem exec_wr32Tier_of_not_busy {s : State} (h : s.fsm ≠ .busy) (d : Word32) :
    exec (.wr32Tier d) s = .next { s with tier := d.setWidth 2, answer := .written } :=
  writeConfig_of_not_busy h

theorem exec_wr32Channels_of_not_busy {s : State} (h : s.fsm ≠ .busy) (d : Word32) :
    exec (.wr32Channels d) s = .next { s with channels := d.setWidth 16, answer := .written } :=
  writeConfig_of_not_busy h

theorem exec_wr32OutPeriods_of_not_busy {s : State} (h : s.fsm ≠ .busy) (d : Word32) :
    exec (.wr32OutPeriods d) s = .next { s with outPeriods := d, answer := .written } :=
  writeConfig_of_not_busy h

/-- Settles O17: the update of each register, which a run ignores. -/
theorem configWritesStoreUnlessBusy : Obligations.ConfigWritesStoreUnlessBusy := by
  intro s d
  refine ⟨⟨decode_writePacket (r := .tier) rfl, decode_writePacket (r := .channels) rfl,
    decode_writePacket (r := .outPeriods) rfl⟩, fun hbusy => ?_, fun hidle => ?_⟩
  · exact ⟨writeConfig_of_busy hbusy, writeConfig_of_busy hbusy, writeConfig_of_busy hbusy⟩
  · have hlow {v : Nat} (h : v ≤ 32) : d.extractLsb' 0 v = d.setWidth v := (BitVec.setWidth_eq_extractLsb' h).symm
    rw [hlow (show 2 ≤ 32 by decide), hlow (show 16 ≤ 32 by decide)]
    exact ⟨exec_wr32Tier_of_not_busy hidle d, exec_wr32Channels_of_not_busy hidle d,
      exec_wr32OutPeriods_of_not_busy hidle d⟩

/-! ### CTRL -/

/-- A write to CTRL that starts nothing writes IE (R331, R360). -/
theorem exec_wr32Ctrl_without_start {s : State} {d : Word32} (h : d.getLsbD 0 = false ∨ s.fsm = .busy) :
    exec (.wr32Ctrl d) s = .next { s with ie := d.getLsbD 1, answer := .written } := by
  rcases writeCtrl_cases d s with ⟨-, hw⟩ | ⟨hstart, hidle, -⟩
  · exact congrArg (fun t => (Host.Outcome.next (answerWrite t) : Result)) hw
  · rcases h with h | h
    · nomatch hstart.symm.trans h
    · exact absurd h hidle

/-- Settles O18: the write of IE is all that is left. -/
theorem ctrlWriteWithoutStartSetsIe : Obligations.CtrlWriteWithoutStartSetsIe :=
  fun _ _ h => exec_wr32Ctrl_without_start h

theorem startRun_of_valid {s : State} (h : ConfigValid s) : startRun s = acceptStart s := by
  obtain ⟨htier, hchannels, hperiods⟩ := h
  rcases startRun_cases s with ⟨h0, h1, -⟩ | ⟨-, hc, -⟩ | ⟨-, -, hp, -⟩ | ⟨-, -, -, haccept⟩
  · rcases htier with h | h
    · exact absurd h h0
    · exact absurd h h1
  · exact absurd hc hchannels
  · exact absurd hp hperiods
  · exact haccept

/-- A START outside a run with a valid configuration is accepted, and the same write sets IE (R331, R342). -/
theorem exec_wr32Ctrl_accepted {s : State} {d : Word32} (hstart : d.getLsbD 0 = true) (hidle : s.fsm ≠ .busy)
    (hvalid : ConfigValid s) :
    exec (.wr32Ctrl d) s = .next { acceptStart s with ie := d.getLsbD 1, answer := .written } := by
  have hw : writeCtrl d s = startRun { s with ie := d.getLsbD 1 } := by
    rcases writeCtrl_cases d s with ⟨h | h, -⟩ | ⟨-, -, hw⟩
    · nomatch hstart.symm.trans h
    · exact absurd h hidle
    · exact hw
  rw [startRun_of_valid (s := { s with ie := d.getLsbD 1 }) hvalid] at hw
  exact congrArg (fun t => (Host.Outcome.next (answerWrite t) : Result)) hw

theorem HasPeriod.tierValid {s : State} {p : Nat} (h : HasPeriod s p) : TierValid s.tier :=
  h.imp And.left And.left

/-- Settles O20: the fields after the run-start reset, and TOTAL, which does not wrap. -/
theorem acceptedStartBeginsRun : Obligations.AcceptedStartBeginsRun := by
  intro s d p hstart hidle hp hchannels hperiods
  refine ⟨_, exec_wr32Ctrl_accepted hstart hidle ⟨hp.tierValid, hchannels, hperiods⟩, rfl, ?_, rfl, rfl, rfl, rfl,
    fun sec => ?_, rfl, rfl, rfl, rfl, rfl, rfl, rfl, rfl, rfl, rfl, rfl, rfl, rfl⟩
  · rw [hp.eq_periodOf]
    exact runTotal_toNat hp.tierValid
  · cases sec <;> rfl

end Sys2Proof.Machine

/-! PROOFS, 47_run_control.md R355 to R358. The sample step: it is its stages in the order of their ids (R355), and
with a finite band-limited sample it completes (R355, R356). -/

namespace Sys2Proof.Machine

/-- A sample step whose band-limited sample is finite goes on (44_limiter.md R243). -/
theorem sampleStepOp_next_of_nextSampleFinite {s : State} (hbusy : s.fsm = .busy) (h : NextSampleFinite s) :
    ∃ t, sampleStepOp s = .next t := by
  rcases sampleStepOp_cases s with ⟨hidle, -⟩ | ⟨-, -, hnext⟩ | ⟨-, hnot, -⟩
  · exact absurd hbusy hidle
  · exact ⟨_, hnext⟩
  · exact absurd h hnot

theorem sampleStepOp_of_not_busy {s : State} (h : s.fsm ≠ .busy) : sampleStepOp s = .next s :=
  if_neg h

/-! ## The stages in order -/

theorem runInstrs_singleton (i : Instr) (s : State) : runInstrs [i] s = exec i s := by
  rw [runInstrs]
  cases exec i s <;> rfl

/-- The stages up to LIMIT (R355). -/
theorem runInstrs_generate_limit (s : State) :
    runInstrs [.prngStep, .prngMap, .pinkStep, .bqHp1, .bqHp2, .bqLp1, .bqLp2, .limit] s =
      limitStage (generateStages s) :=
  runInstrs_singleton .limit (generateStages s)

/-- The stages of an output sample (R355). -/
theorem runInstrs_output (s : State) :
    runInstrs [.energyAcc, .previewCap, .pcmConv, .pcmEmit] s = .next (outputStages s) := rfl

/-- LIMIT writes its wire only (44_limiter.md R240). -/
theorem limitStage_frame {s t : State} (h : limitStage s = .next t) : t = { s with wires := t.wires } := by
  by_cases hf : isFinite s.wires.y = true
  · rw [limitStage_of_finite hf] at h
    cases h
    rfl
  · rw [limitStage_of_not_finite hf] at h
    cases h

/-- What the stages up to LIMIT leave of what the rest of the step decides on: TIER, SAMPLE_INDEX and TOTAL. -/
theorem limitStage_generateStages_frame {s t : State} (h : limitStage (generateStages s) = .next t) :
    t.tier = s.tier ∧ t.sampleIndex = s.sampleIndex ∧ t.total = s.total := by
  rw [limitStage_frame h, generateStages_frame s]
  exact ⟨rfl, rfl, rfl⟩

/-- The stages of an output sample leave SAMPLE_INDEX and TOTAL. -/
theorem outputStages_frame (s : State) :
    (outputStages s).sampleIndex = s.sampleIndex ∧ (outputStages s).total = s.total := by
  simp only [outputStages, pcmEmitStage_eq, pcmConvStage_eq, previewStage_eq, energyStage_eq, and_self]

/-- The end of a sample step is RUN_END where the next index is TOTAL, then the next index and the idle wires (R355,
R357, log 5). -/
theorem advanceSample_eq_runEnd (s : State) :
    advanceSample s = { (if s.sampleIndex.toNat + 1 = s.total.toNat then endRun s else s) with
      sampleIndex := nextIndex s.sampleIndex, wires := .idle } := by
  rw [advanceSample_eq]
  split <;> rfl

/-- Settles O40: LIMIT's outcome is the step's, and after it the step branches on SAMPLE_INDEX and TOTAL, which no stage
writes. -/
theorem sampleStepIsItsStagesInOrder : Obligations.SampleStepIsItsStagesInOrder := by
  refine ⟨fun s => sampleStepOp_of_not_busy, fun s hbusy => ?_⟩
  have hstep : exec .sampleStep s = _ := if_pos hbusy
  rw [runInstrs_generate_limit, hstep]
  cases hlimit : limitStage (generateStages s) with
  | fault f => rfl
  | refused r => rfl
  | next t =>
    obtain ⟨htier, hindex, htotal⟩ := limitStage_generateStages_frame hlimit
    have hout : isOutputSample t = true ↔ periodOf s ≤ s.sampleIndex.toNat := by
      rw [isOutputSample_iff, periodOf, runConsts, htier, hindex, periodOf, runConsts]
    have hframe : (if isOutputSample t then outputStages t else t).sampleIndex = s.sampleIndex ∧
        (if isOutputSample t then outputStages t else t).total = s.total := by
      obtain ⟨houtIndex, houtTotal⟩ := outputStages_frame t
      split
      · exact ⟨houtIndex.trans hindex, houtTotal.trans htotal⟩
      · exact ⟨hindex, htotal⟩
    obtain ⟨hindexLast, htotalLast⟩ := hframe
    have hrunEnd (u : State) : exec .runEnd u = .next (endRun u) := rfl
    simp only [finishSample, advanceSample_eq_runEnd, hindexLast, htotalLast, ← hout, runInstrs_output, ← apply_ite,
      hrunEnd]

/-! ## The whole step -/

/-- Settles O41: the step of a finite sample goes on, and `sampleStepOp_next` gives every field after it. -/
theorem sampleStepCompletes : Obligations.SampleStepCompletes := by
  intro s g v hbusy hfinite hindex hg hv
  subst hg hv
  obtain ⟨t, hstep⟩ := sampleStepOp_next_of_nextSampleFinite hbusy hfinite
  refine ⟨t, hstep, ?_⟩
  obtain ⟨-, rfl⟩ := sampleStepOp_next hbusy hstep
  refine ⟨nextIndex_toNat hindex, rfl, rfl, rfl, rfl, rfl, fun hwarm => ?_, fun hout => ?_,
    rfl, rfl, rfl, rfl, rfl, rfl, rfl, rfl, rfl⟩
  · have hnot := not_isOutputSample_iff.2 hwarm
    have hcap : ¬capturesPreview s = true := by simp [capturesPreview, hnot]
    exact ⟨if_neg hnot, if_neg hcap, if_neg hcap, if_neg hnot⟩
  · have hout := (isOutputSample_iff s).2 hout
    refine ⟨if_pos hout, if_pos hout, ?_⟩
    by_cases hcap : capturesPreview s = true
    · have hroom : s.previewCount.toNat < 1000 := by
        simp only [capturesPreview, Bool.and_eq_true, decide_eq_true_iff] at hcap
        exact hcap.2
      refine .inr ⟨hroom, ?_, if_pos hcap⟩
      dsimp only
      rw [if_pos hcap]
      bv_omega
    · exact .inl ⟨if_neg hcap, if_neg hcap⟩

/-- Settles O42: RUN_END is `endRun`. -/
theorem runEndSetsDone : Obligations.RunEndSetsDone := fun _ => rfl

end Sys2Proof.Machine

/-! PROOFS, 47_run_control.md R357, R359, R360, R364, R365. Host accesses and the run: the host cannot disturb a run in
progress, it holds the results outside one, and a run is a function of its configuration.

`runPart` sets what a run neither reads nor ends with to a fixed value: IE, the bus's answer, the schedule and the
wires. A host access in a run does not show in it, and a sample step acts on it as on the state, so that a run with
any accesses between its sample steps is, on that part, the sample steps alone. -/

namespace Sys2Proof.Machine

/-! ## Host accesses -/

/-- Every host access completes (60_exceptions.md R390). -/
theorem exec_next_of_isHostAccess {i : Instr} (hi : isHostAccess i = true) (s : State) : ∃ t, exec i s = .next t := by
  cases i
  case prngStep | prngMap | pinkStep | bqHp1 | bqHp2 | bqLp1 | bqLp2 | limit | energyAcc | previewCap | pcmConv
      | pcmEmit | sampleStep | runEnd | reservedCoreOp14 | reservedCoreOp15 => cases hi
  all_goals exact ⟨_, rfl⟩

/-- In a run a host access writes IE and the bus's answer at most (R360). -/
theorem HostEffect.eq_of_busy {i : Instr} {s t : State} (h : HostEffect i s t) (hbusy : s.fsm = .busy) :
    t = { s with ie := t.ie, answer := t.answer } := by
  cases h with
  | answered => rfl
  | configured _ _ _ _ hidle => exact absurd hbusy hidle
  | rejected _ _ _ _ hidle => exact absurd hbusy hidle
  | started _ _ _ hidle => exact absurd hbusy hidle

/-- Settles O46: an access completes, and of its effects only the answer is one on a BUSY core. -/
theorem hostCannotDisturbRun : Obligations.HostCannotDisturbRun := by
  intro s i hbusy hi
  obtain ⟨t, hexec⟩ := exec_next_of_isHostAccess hi s
  exact ⟨t, hexec, (hostEffect_of_exec hi hexec).eq_of_busy hbusy⟩

/-- Settles O48: no effect of a host access writes a result, except the accepted START, which ends in BUSY. -/
theorem resultsHeldOutsideRun : Obligations.ResultsHeldOutsideRun := by
  intro s t i _ hi hexec hidle
  cases hostEffect_of_exec hi hexec with
  | answered | configured | rejected => exact ⟨rfl, rfl, rfl, rfl, rfl, rfl, rfl, rfl, rfl, rfl⟩
  | started => exact absurd rfl hidle

/-! ## The part of the state that a run depends on -/

/-- The state with IE, the bus's answer, the schedule and the wires set to fixed values: what is left is all that a
sample step reads, and all that it leaves but for them. -/
def runPart (s : State) : State :=
  { s with ie := false, answer := .none, agenda := [], wires := .idle }

theorem runPart_eq_of_hostEffect {i : Instr} {s t : State} (h : HostEffect i s t) (hbusy : s.fsm = .busy) :
    runPart t = runPart s := by
  rw [h.eq_of_busy hbusy]
  rfl

/-- An accepted START leaves nothing of the run before it. -/
theorem runPart_acceptStart {s s' : State} (htier : s'.tier = s.tier) (hchannels : s'.channels = s.channels)
    (hperiods : s'.outPeriods = s.outPeriods) (hconsts : s'.consts = s.consts) :
    runPart (acceptStart s') = runPart (acceptStart s) := by
  simp only [runPart, acceptStart, runTotal, periodOf, runConsts, htier, hchannels, hperiods, hconsts]

/-- The stages up to the band-limited sample write every wire before they read it, and read nothing else outside the
part (log 5). -/
theorem generateStages_runPart (s : State) :
    (generateStages (runPart s)).b = (generateStages s).b ∧ (generateStages (runPart s)).z = (generateStages s).z ∧
      (generateStages (runPart s)).bq = (generateStages s).bq ∧
      (generateStages (runPart s)).wires.y = (generateStages s).wires.y :=
  ⟨rfl, rfl, rfl, rfl⟩

theorem nextSampleFinite_runPart (s : State) : NextSampleFinite (runPart s) ↔ NextSampleFinite s := by
  obtain ⟨-, -, -, hy⟩ := generateStages_runPart s
  rw [NextSampleFinite, hy, NextSampleFinite]

/-! ## Sample steps -/

/-- A sample step acts on the part as on the state. -/
theorem sampleStepOp_runPart {s t : State} (h : sampleStepOp s = .next t) :
    sampleStepOp (runPart s) = .next (runPart t) := by
  by_cases hbusy : s.fsm = .busy
  · obtain ⟨hfinite, rfl⟩ := sampleStepOp_next hbusy h
    obtain ⟨r, hr⟩ := sampleStepOp_next_of_nextSampleFinite (s := runPart s) hbusy
      ((nextSampleFinite_runPart s).2 hfinite)
    obtain ⟨-, heq⟩ := sampleStepOp_next (s := runPart s) hbusy hr
    obtain ⟨hb, hz, hbq, hy⟩ := generateStages_runPart s
    rw [hr, heq, hb, hz, hbq, hy]
    rfl
  · rw [sampleStepOp_of_not_busy hbusy] at h
    cases h
    exact sampleStepOp_of_not_busy (s := runPart s) hbusy

/-- Where a sample step goes on from the part, it goes on from the state. -/
theorem exists_of_sampleStepOp_runPart {s r : State} (h : sampleStepOp (runPart s) = .next r) :
    ∃ t, sampleStepOp s = .next t ∧ runPart t = r := by
  obtain ⟨t, ht⟩ : ∃ t, sampleStepOp s = .next t := by
    by_cases hbusy : s.fsm = .busy
    · obtain ⟨hfinite, -⟩ := sampleStepOp_next (s := runPart s) hbusy h
      exact sampleStepOp_next_of_nextSampleFinite hbusy ((nextSampleFinite_runPart s).1 hfinite)
    · exact ⟨s, sampleStepOp_of_not_busy hbusy⟩
  refine ⟨t, ht, ?_⟩
  rw [sampleStepOp_runPart ht] at h
  exact Host.Outcome.next.inj h

/-- Before the last sample a sample step leaves the run in progress, one sample further (R355). -/
theorem sampleStepOp_before_last {s u : State} (hbusy : s.fsm = .busy)
    (hbefore : s.sampleIndex.toNat + 1 < s.total.toNat) (h : sampleStepOp s = .next u) :
    u.fsm = .busy ∧ u.sampleIndex.toNat = s.sampleIndex.toNat + 1 ∧ u.total = s.total := by
  obtain ⟨-, rfl⟩ := sampleStepOp_next hbusy h
  exact ⟨if_neg hbefore.ne, nextIndex_toNat (hbefore.trans s.total.isLt), rfl⟩

/-! ## A run with host accesses between its sample steps -/

/-- Before the end of a run a sequence of machine steps acts on the part as its sample steps alone (R359). -/
theorem runInstrs_turns_runPart {steps : List Instr} {s t : State} (hsteps : ∀ i ∈ steps, isMachineStep i = true)
    (hbusy : s.fsm = .busy) (hbefore : s.sampleIndex.toNat + steps.count .sampleStep < s.total.toNat)
    (h : runInstrs steps s = .next t) :
    runInstrs (afterTurns (steps.count .sampleStep) []) (runPart s) = .next (runPart t) := by
  induction steps generalizing s with
  | nil =>
    cases h
    rfl
  | cons i rest ih =>
    obtain ⟨u, hexec, hrest⟩ := exec_next_of_runInstrs_cons h
    obtain ⟨hi, hothers⟩ := List.forall_mem_cons.1 hsteps
    rcases isHostAccess_or_eq_sampleStep hi with hhost | rfl
    · have hne : i ≠ .sampleStep := by
        rintro rfl
        cases hhost
      have heffect := hostEffect_of_exec hhost hexec
      have hframe := heffect.eq_of_busy hbusy
      rw [List.count_cons_of_ne hne] at hbefore ⊢
      rw [← runPart_eq_of_hostEffect heffect hbusy]
      exact ih hothers (by rw [hframe]; exact hbusy) (by rw [hframe]; exact hbefore) hrest
    · rw [List.count_cons_self] at hbefore ⊢
      obtain ⟨hgoes, hindex, htotal⟩ := sampleStepOp_before_last hbusy (by omega) hexec
      have hstep : exec .sampleStep (runPart s) = .next (runPart u) := sampleStepOp_runPart hexec
      rw [afterTurns_succ, runInstrs_cons_of_next hstep]
      exact ih hothers hgoes (by rw [hindex, htotal]; omega) hrest

/-- States with the same part have the same results and flags, but for IE. -/
theorem results_eq_of_runPart_eq {s s' : State} (h : runPart s' = runPart s) :
    s'.pcmOut = s.pcmOut ∧ s'.energy = s.energy ∧ s'.preview = s.preview ∧ s'.previewCount = s.previewCount ∧
      s'.total = s.total ∧ s'.fsm = s.fsm ∧ s'.errCode = s.errCode :=
  ⟨congrArg (·.pcmOut) h, congrArg (·.energy) h, congrArg (·.preview) h, congrArg (·.previewCount) h,
    congrArg (·.total) h, congrArg (·.fsm) h, congrArg (·.errCode) h⟩

/-- The observation reads the part and, in STATUS.IRQ, IE (R364, log 16). -/
theorem observe_eq_of_runPart_eq {s s' : State} (h : runPart s' = runPart s) (hie : s'.ie = s.ie) :
    observe s' = observe s := by
  obtain ⟨hpcm, henergy, hpreview, hcount, htotal, hfsm, hcode⟩ := results_eq_of_runPart_eq h
  simp only [observe, statusWord, irqLevel, busyBit, doneBit, errBit, hpcm, henergy, hpreview, hcount, htotal, hfsm,
    hcode, hie]

/-- Settles O57: both runs are, on their parts, the same number of sample steps from the same start, so the last sample
step of the one is that of the other. -/
theorem observationDependsOnConfigurationOnly : Obligations.ObservationDependsOnConfigurationOnly := by
  intro s s' t t' u steps steps' _ htier hchannels hperiods hconsts hsteps hcount hbefore hrun hrun' hlast
  obtain ⟨hsteps, hsteps'⟩ := List.forall_mem_append.1 hsteps
  have hstart := runPart_acceptStart htier hchannels hperiods hconsts
  have htotal : runTotal s' = runTotal s := congrArg (·.total) hstart
  have hpart := runInstrs_turns_runPart hsteps rfl (by simpa using hbefore) hrun
  have hpart' := runInstrs_turns_runPart hsteps' rfl (by simpa [hcount, htotal] using hbefore) hrun'
  rw [hcount, hstart, hpart] at hpart'
  injection hpart' with hsame
  have hlast' := sampleStepOp_runPart hlast
  rw [hsame] at hlast'
  obtain ⟨u', hu', hend⟩ := exists_of_sampleStepOp_runPart hlast'
  obtain ⟨hpcm, henergy, hpreview, hentries, htotals, hfsm, hcode⟩ := results_eq_of_runPart_eq hend
  exact ⟨u', hu', hpcm, henergy, hpreview, hentries, htotals, hfsm, hcode, observe_eq_of_runPart_eq hend⟩

end Sys2Proof.Machine

/-! PROOFS, 47_run_control.md R361, R362. A request: what the host plans the core accepts, and what the header cannot
describe the host rejects (46_pcm_formatter.md R300). -/

namespace Sys2Proof.Machine

/-! ## The plan -/

theorem tierOfRate_some {rate : Nat} {tier : BitVec 2} (h : tierOfRate rate = some tier) :
    rate = 48000 ∧ tier = 0#2 ∨ rate = 96000 ∧ tier = 1#2 := by
  unfold tierOfRate at h
  split_ifs at h with h48 h96 <;> cases h
  · exact .inl ⟨h48, rfl⟩
  · exact .inr ⟨h96, rfl⟩

/-- A plan is made for one of the two rates, at least one channel and at least one period (R361). -/
theorem planRun_ok {rate channels : Nat} {d : F64} {plan : RunPlan} (h : planRun rate d channels = .ok plan) :
    (rate = 48000 ∧ plan.tier = 0#2 ∨ rate = 96000 ∧ plan.tier = 1#2) ∧ 1 ≤ channels ∧
      1 ≤ plan.outPeriods.toNat := by
  unfold planRun at h
  cases htier : tierOfRate rate with
  | none =>
    rw [htier] at h
    cases h
  | some tier =>
    simp only [htier] at h
    split_ifs at h with hinvalid hperiods
    cases h
    simp only [Bool.or_eq_true, decide_eq_true_iff, Bool.and_eq_true] at hinvalid hperiods
    obtain ⟨⟨-, hlow⟩, hhigh⟩ := hperiods
    refine ⟨tierOfRate_some htier, by omega, ?_⟩
    rwa [BitVec.toNat_ofNat, Nat.mod_eq_of_lt hhigh]

/-- The rate of a plan decides its TIER and the period of its NOUT. -/
theorem planRun_period {rate channels p : Nat} {d : F64} {plan : RunPlan} (h : planRun rate d channels = .ok plan)
    (hp : rate = 48000 ∧ p = 524288 ∨ rate = 96000 ∧ p = 1048576) : (tierConsts plan.tier).period = p := by
  obtain ⟨⟨hrate, htier⟩ | ⟨hrate, htier⟩, -⟩ := planRun_ok h
  · obtain rfl : p = 524288 := by omega
    rw [htier]
    rfl
  · obtain rfl : p = 1048576 := by omega
    rw [htier]
    rfl

/-- A planned run is admitted exactly within the header's limits (46_pcm_formatter.md R300). -/
theorem requestRun_of_planRun {rate channels : Nat} {d : F64} {plan : RunPlan}
    (h : planRun rate d channels = .ok plan) :
    requestRun rate d channels =
      if headerFits rate channels plan.nout then .ok plan else .error .resourceExhaustion := by
  rcases requestRun_cases rate d channels with ⟨e, hplan, -⟩ | ⟨q, hplan, hfits, hreq⟩ | ⟨q, hplan, hfits, hreq⟩ <;>
    rw [h] at hplan <;> cases hplan
  · rw [hreq, if_pos hfits]
  · rw [hreq, hfits, if_neg Bool.false_ne_true]

/-- A request that is admitted is planned, for a channel count that CHANNELS holds. -/
theorem planRun_of_requestRun {rate channels : Nat} {d : F64} {plan : RunPlan}
    (h : requestRun rate d channels = .ok plan) : planRun rate d channels = .ok plan ∧ channels < 65536 := by
  rcases requestRun_cases rate d channels with ⟨e, -, hreq⟩ | ⟨q, hplan, hfits, hreq⟩ | ⟨q, -, -, hreq⟩ <;>
    rw [h] at hreq <;> cases hreq
  obtain ⟨hchannels, -⟩ := (headerFits_iff ..).1 hfits
  exact ⟨hplan, by omega⟩

/-! ## CONFIG and START -/

/-- The state after CONFIG outside a run (30_encoding.md R131; R335, R337, R339). -/
def configured (t c n : Word32) (s : State) : State :=
  { s with tier := t.setWidth 2, channels := c.setWidth 16, outPeriods := n, answer := .written }

section Configured

variable {s : State}

theorem runInstrs_configAccesses (hidle : s.fsm ≠ .busy) (t c n : Word32) :
    runInstrs (configAccesses t c n) s = .next (configured t c n s) := by
  rw [configAccesses, runInstrs_cons_of_next (exec_wr32Tier_of_not_busy hidle t)]
  refine (runInstrs_cons_of_next (exec_wr32Channels_of_not_busy ?_ c)).trans
    (runInstrs_cons_of_next (exec_wr32OutPeriods_of_not_busy ?_ n))
  · exact hidle
  · exact hidle

/-- CONFIG with a valid configuration and START, outside a run, begin its run (R342). -/
theorem runInstrs_config_start {t c n : Word32} (hidle : s.fsm ≠ .busy) (hvalid : ConfigValid (configured t c n s)) :
    runInstrs (configAccesses t c n ++ startAccesses) s =
      .next { acceptStart (configured t c n s) with ie := false, answer := .written } := by
  rw [runInstrs_append_of_next (runInstrs_configAccesses hidle t c n), startAccesses]
  exact runInstrs_cons_of_next (exec_wr32Ctrl_accepted (d := 0x1#32) (by decide) hidle hvalid)

/-- CONFIG with a plan's values and a channel count that CHANNELS holds writes a valid configuration, with the plan's
TIER and OUT_PERIODS. -/
theorem configValid_configured {plan : RunPlan} {channels : Nat} (htier : TierValid plan.tier) (hpos : 1 ≤ channels)
    (hlt : channels < 65536) (hperiods : 1 ≤ plan.outPeriods.toNat) :
    (configured (plan.tier.setWidth 32) (BitVec.ofNat 32 channels) plan.outPeriods s).tier = plan.tier ∧
      ConfigValid (configured (plan.tier.setWidth 32) (BitVec.ofNat 32 channels) plan.outPeriods s) := by
  have hkeeps : (plan.tier.setWidth 32).setWidth 2 = plan.tier := by
    rcases htier with h | h <;> rw [h] <;> rfl
  refine ⟨hkeeps, (congrArg TierValid hkeeps).mpr htier, fun h => ?_, fun h => ?_⟩
  · have hnat := congrArg BitVec.toNat h
    simp only [configured, BitVec.toNat_setWidth, BitVec.toNat_ofNat] at hnat
    omega
  · rw [show plan.outPeriods = 0#32 from h] at hperiods
    cases hperiods

end Configured

/-- Settles O59: a plan is a configuration that START accepts, and the header's limits are all that `requestRun` adds
to it. -/
theorem plannedRunIsAccepted : Obligations.PlannedRunIsAccepted := by
  refine ⟨fun s rate channels d plan hrequest hidle => ?_, fun rate channels d plan p hplan hp => ?_⟩
  · obtain ⟨hplan, hlt⟩ := hrequest.elim id planRun_of_requestRun
    obtain ⟨hrate, hpos, hperiods⟩ := planRun_ok hplan
    have htier : TierValid plan.tier := hrate.imp And.right And.right
    obtain ⟨hkeeps, hvalid⟩ := configValid_configured (s := s) htier hpos hlt hperiods
    refine ⟨_, runInstrs_config_start hidle hvalid, rfl, hperiods, ?_⟩
    have htotal := runTotal_toNat hvalid.1
    rw [periodOf, runConsts, hkeeps] at htotal
    rcases hrate with ⟨hrate, -⟩ | ⟨hrate, -⟩
    · exact .inl ⟨hrate, htotal.trans (congrArg _ (planRun_period hplan (.inl ⟨hrate, rfl⟩)))⟩
    · exact .inr ⟨hrate, htotal.trans (congrArg _ (planRun_period hplan (.inr ⟨hrate, rfl⟩)))⟩
  · rw [requestRun_of_planRun hplan, ← planRun_period hplan hp]
    have hfits := headerFits_iff rate channels plan.nout
    rw [Nat.mul_right_comm rate channels 3, dataSize, RunPlan.nout] at hfits
    refine ⟨fun hbreaks => if_neg fun h => ?_,
      fun hchannels hrate hdata => if_pos (hfits.2 ⟨hchannels, hrate, hdata⟩)⟩
    have hlimits := hfits.1 h
    omega

end Sys2Proof.Machine

/-! PROOFS, 60_exceptions.md. What can go wrong: START rejects a configuration by its first failing check (R381, R383),
the window refuses an access (R388), and a sample step stops at a band-limited sample that is not finite (R389). A step
of the machine has no other outcome than these and a next state (R380, R390). -/

namespace Sys2Proof.Machine

/-! ## A rejected START -/

theorem tierValid_iff (tier : BitVec 2) : TierValid tier ↔ tier.toNat < 2 := by
  revert tier
  unfold TierValid
  decide

section Validation

variable {s : State}

theorem startRun_of_badTier (h : ¬TierValid s.tier) : startRun s = setError badTier s :=
  if_pos (not_or.1 h)

theorem startRun_of_badChannels (htier : TierValid s.tier) (h : s.channels = 0#16) :
    startRun s = setError badChannels s :=
  (if_neg fun hbad => not_or.2 hbad htier).trans (if_pos h)

theorem startRun_of_badLength (htier : TierValid s.tier) (hchannels : s.channels ≠ 0#16) (h : s.outPeriods = 0#32) :
    startRun s = setError badLength s :=
  (if_neg fun hbad => not_or.2 hbad htier).trans ((if_neg hchannels).trans (if_pos h))

/-- A START outside a run that fails validation is `set_error`, and the same write sets IE (R331, R381). -/
theorem exec_wr32Ctrl_rejected {d : Word32} {code : BitVec 4} (hstart : d.getLsbD 0 = true) (hidle : s.fsm ≠ .busy)
    (h : startRun { s with ie := d.getLsbD 1 } = setError code { s with ie := d.getLsbD 1 }) :
    exec (.wr32Ctrl d) s =
      .next { s with ie := d.getLsbD 1, fsm := .error, errCode := code, answer := .written } := by
  rcases writeCtrl_cases d s with ⟨hnot | hbusy, -⟩ | ⟨-, -, hw⟩
  · nomatch hstart.symm.trans hnot
  · exact absurd hbusy hidle
  · exact congrArg (fun t => (Host.Outcome.next (answerWrite t) : Result)) (hw.trans h)

end Validation

/-- Settles O19: each check fails after the ones before it have passed, and its code is the one recorded. -/
theorem rejectedStartSetsErrorOnly : Obligations.RejectedStartSetsErrorOnly := by
  intro s d hstart hidle
  simp only [← not_lt, ← tierValid_iff]
  exact ⟨fun htier => exec_wr32Ctrl_rejected hstart hidle (startRun_of_badTier htier),
    fun htier hchannels => exec_wr32Ctrl_rejected hstart hidle (startRun_of_badChannels htier hchannels),
    fun htier hchannels hperiods =>
      exec_wr32Ctrl_rejected hstart hidle (startRun_of_badLength htier hchannels hperiods)⟩

/-! ## Refused accesses -/

theorem exec_busErrMisaligned (off : BitVec 14) (p : Payload) (s : State) :
    exec (.busErrMisaligned off p) s = .next { s with answer := .busError off .w32 p.dir } := rfl

theorem exec_busErrWidth (w : OddWidth) (off : BitVec 14) (dir : BusDir) (s : State) :
    exec (.busErrWidth w off dir) s = .next { s with answer := .busError off w.busWidth dir } := rfl

/-- Settles O21: a misaligned offset selects no register (O3), and the two refusals write the answer only. -/
theorem refusedAccessesAnswerBusError : Obligations.RefusedAccessesAnswerBusError := by
  intro s off d w dir
  obtain ⟨hmisaligned, -⟩ := descriptorSelectsOneAccess off d
  exact ⟨hmisaligned, rfl, exec_busErrMisaligned off .read s, exec_busErrMisaligned off (.write d) s,
    exec_busErrWidth .w8 off dir s, exec_busErrWidth .w16 off dir s, exec_busErrWidth .w64 off dir s⟩

/-! ## The outcomes of a step -/

theorem isStepPacket_iff (p : Packet) : isStepPacket p = true ↔ ∃ i, decode p = .ok i ∧ isMachineStep i = true := by
  unfold isStepPacket
  cases decode p with
  | ok i => simp
  | error e => simp

/-- A slot without a reset and without a packet is the core's turn, so that a packet is always fetched; in a schedule of
machine steps it is one of theirs. -/
theorem StepsOnly.isStepPacket_fetchPacket {s : State} (h : StepsOnly s) (hreset : (nextSlot s).hwReset = false) :
    isStepPacket (fetchPacket s) = true := by
  have hslot := h.isStepSlot_nextSlot
  rw [isStepSlot, hreset, Bool.false_or] at hslot
  rw [fetchPacket]
  cases hpacket : (nextSlot s).packet with
  | none => rfl
  | some p => rwa [hpacket] at hslot

/-- A step that takes a raised reset performs nothing else (R394; 70_reset_and_hazards.md R420). -/
theorem step_of_hwReset {s : State} (h : (nextSlot s).hwReset = true) :
    step s = .next (State.afterReset s.consts s.agenda.tail) :=
  if_pos h

/-- A sample step completes, or it is that of a run and its band-limited sample is not finite (R389). -/
theorem sampleStepOp_next_or_fault (s : State) :
    (∃ t, sampleStepOp s = .next t) ∨ s.fsm = .busy ∧ sampleStepOp s = .fault (.nonFinite s.sampleIndex) := by
  by_cases hbusy : s.fsm = .busy
  · by_cases hfinite : NextSampleFinite s
    · exact .inl (sampleStepOp_next_of_nextSampleFinite hbusy hfinite)
    · exact .inr ⟨hbusy, sampleStepOp_of_not_nextSampleFinite hbusy hfinite⟩
  · exact .inl ⟨s, sampleStepOp_of_not_busy hbusy⟩

/-- Settles O50: a reset and a host access complete, and a sample step has the two outcomes. -/
theorem stepsStopOnlyWithNonFinite : Obligations.StepsStopOnlyWithNonFinite := by
  intro s h
  cases hreset : (nextSlot s).hwReset with
  | true => exact .inl ⟨_, step_of_hwReset hreset⟩
  | false =>
    obtain ⟨i, hdecode, hi⟩ := (isStepPacket_iff _).1 (h.isStepPacket_fetchPacket hreset)
    rw [StepSafe, step_of_decode hreset hdecode]
    rcases isHostAccess_or_eq_sampleStep hi with hhost | rfl
    · exact .inl (exec_next_of_isHostAccess hhost _)
    · exact sampleStepOp_next_or_fault (takeSlot s)

end Sys2Proof.Machine

/-! PROOFS, 70_reset_and_hazards.md. Hardware reset and the state after it (R420, R421), and the length of a run (R435).

A run with any host accesses between its sample steps is, on its part (`runPart`), the sample steps alone. So the length
of a run is an induction over sample steps, each of which keeps the invariant of the run and counts one sample; the last
one leaves `RunInv` with SAMPLE_INDEX = TOTAL, where it gives the results of a whole run. -/

namespace Sys2Proof.Machine

/-! ## Hardware reset -/

/-- Settles O7: the step that takes the slot ends in `State.afterReset`, which lists the values of R420. -/
theorem hardwareResetSetsEveryElement : Obligations.HardwareResetSetsEveryElement := by
  intro s p rest hagenda
  have hstep : step s = .next (State.afterReset s.consts rest) := by
    rw [step_of_hwReset (by rw [nextSlot_of_agenda hagenda]), hagenda, List.tail_cons]
  refine ⟨_, hstep, rfl, rfl, rfl, rfl, rfl, rfl, rfl, rfl, rfl, rfl, rfl, fun sec => ?_, rfl, rfl, rfl, rfl, rfl, rfl,
    rfl⟩
  cases sec <;> rfl

/-- After a reset every preview entry is +0.0, whose bits are 0, and above them there is reserved space. -/
theorem previewEntry_reset (k : Nat) : previewEntry State.reset k = 0#64 := by
  unfold previewEntry
  split
  · exact Vector.getElem_replicate _
  · rfl

/-- After a reset every register reads 0 (R421). -/
theorem regValue_reset (r : Reg) : regValue State.reset r = 0#32 := by
  cases r with
  | previewLo k => rw [regValue, previewEntry_reset]; rfl
  | previewHi k => rw [regValue, previewEntry_reset]; rfl
  | ctrl | status | tier | channels | outPeriods | seed | previewCount | sampleIndexLo | sampleIndexHi | totalLo
  | totalHi | energyLo | energyHi | reserved => rfl

/-- Settles O8: nothing is scheduled, so the step is the turn of an idle core; a read answers the register's 0. -/
theorem resetWindowReadsZero : Obligations.ResetWindowReadsZero := by
  obtain ⟨hturn, -⟩ := coreTurnRunsSampleStep State.reset
  have hidle : State.reset.fsm ≠ .busy := nofun
  refine ⟨(hturn rfl).trans (sampleStepOp_of_not_busy hidle), rfl, rfl, rfl, fun r => ?_⟩
  rw [exec_readInstr, readRegister, regValue_reset, answerRead]

/-! ## The length of a run -/

/-- What START fixes for a run: the configuration and TOTAL (10_state.md R32 to R34, R39). -/
def runConfig (s : State) : BitVec 2 × BitVec 16 × BitVec 32 × BitVec 64 :=
  (s.tier, s.channels, s.outPeriods, s.total)

theorem runConfig_of_sampleStepOp {s t : State} (h : sampleStepOp s = .next t) : runConfig t = runConfig s := by
  obtain ⟨htier, hchannels, hperiods, -, -, htotal, -⟩ := coreOpsLeaveHostState .sampleStep s t rfl h
  rw [runConfig, htier, hchannels, hperiods, htotal, runConfig]

/-- The invariant of a run reads nothing outside the run's part. -/
theorem busyInv_runPart (s : State) : BusyInv (runPart s) ↔ BusyInv s :=
  ⟨fun ⟨config, total, index, seed, stream, entries⟩ => ⟨config, total, index, seed, stream, entries⟩,
    fun ⟨config, total, index, seed, stream, entries⟩ => ⟨config, total, index, seed, stream, entries⟩⟩

/-- `t` is in the run of `s`, `n` sample steps further. -/
structure RunsOn (s : State) (n : Nat) (t : State) : Prop where
  inv : BusyInv t
  busy : t.fsm = .busy
  index : t.sampleIndex.toNat = s.sampleIndex.toNat + n
  config : runConfig t = runConfig s

/-- Fewer sample steps than are left of a run do not end it, and each counts one sample. -/
theorem BusyInv.runsOn_of_turns {n : Nat} {s t : State} (hinv : BusyInv s) (hbusy : s.fsm = .busy)
    (hbefore : s.sampleIndex.toNat + n < s.total.toNat) (h : runInstrs (afterTurns n []) s = .next t) :
    RunsOn s n t := by
  induction n generalizing s with
  | zero =>
    cases h
    exact ⟨hinv, hbusy, rfl, rfl⟩
  | succ n ih =>
    rw [afterTurns_succ] at h
    obtain ⟨u, hstep, hrest⟩ := exec_next_of_runInstrs_cons h
    obtain ⟨hgoes, hindex, htotal⟩ := sampleStepOp_before_last hbusy (by omega) hstep
    obtain ⟨hrun, -⟩ := hinv.sampleStep hbusy hstep
    have hleft : u.sampleIndex.toNat + n < u.total.toNat := by rw [hindex, htotal]; omega
    have hinv' : BusyInv u := (busyInv_iff u).2 ⟨hrun, by omega⟩
    obtain ⟨hinvEnd, hbusyEnd, hindexEnd, hconfig⟩ := ih hinv' hgoes hleft hrest
    exact ⟨hinvEnd, hbusyEnd, by omega, hconfig.trans (runConfig_of_sampleStepOp hstep)⟩

/-- The same with any host accesses between the sample steps (R435; 47_run_control.md R359). -/
theorem BusyInv.runsOn_of_runInstrs {steps : List Instr} {s t : State} (hinv : BusyInv s) (hbusy : s.fsm = .busy)
    (hsteps : ∀ i ∈ steps, isMachineStep i = true)
    (hbefore : s.sampleIndex.toNat + steps.count .sampleStep < s.total.toNat) (h : runInstrs steps s = .next t) :
    RunsOn s (steps.count .sampleStep) t := by
  obtain ⟨hinv', hbusy', hindex, hconfig⟩ := ((busyInv_runPart s).2 hinv).runsOn_of_turns hbusy hbefore
    (runInstrs_turns_runPart hsteps hbusy hbefore h)
  exact ⟨(busyInv_runPart t).1 hinv', hbusy', hindex, hconfig⟩

/-- At SAMPLE_INDEX = TOTAL the stream holds NOUT frames (46_pcm_formatter.md R295). -/
theorem RunInv.length_pcmOut_of_end {s : State} (h : RunInv s) (hend : s.sampleIndex = s.total) :
    s.pcmOut.length = 3 * s.channels.toNat * (s.outPeriods.toNat * periodOf s) := by
  rw [h.stream, ← h.noutOf_eq, outputsSoFar, hend, noutOf]

/-- The sample step of a run whose next index is TOTAL ends the run, with the results of the whole run (R357). -/
theorem BusyInv.last_sampleStep {s t : State} (hinv : BusyInv s) (hbusy : s.fsm = .busy)
    (hlast : s.sampleIndex.toNat + 1 = s.total.toNat) (h : sampleStepOp s = .next t) :
    t.fsm = .done ∧ DoneInv t ∧ t.pcmOut.length = 3 * t.channels.toNat * (t.outPeriods.toNat * periodOf t) := by
  obtain ⟨hrun, hfsm⟩ := hinv.sampleStep hbusy h
  have hend : t.sampleIndex = t.total := by
    obtain ⟨-, rfl⟩ := sampleStepOp_next hbusy h
    exact BitVec.eq_of_toNat_eq ((nextIndex_toNat (hlast ▸ s.total.isLt)).trans hlast)
  exact ⟨hfsm.trans (if_pos hend), hrun.doneInv hend, hrun.length_pcmOut_of_end hend⟩

/-- Settles O56: before the last sample the run goes on, and the last sample step is taken from there. -/
theorem runEndsAfterTotalSteps : Obligations.RunEndsAfterTotalSteps := by
  intro s t steps hmachine hbusy hsteps h
  have hruns (hbefore : s.sampleIndex.toNat + steps.count .sampleStep < s.total.toNat) :=
    (hmachine.busy hbusy).runsOn_of_runInstrs hbusy hsteps hbefore h
  refine ⟨fun hbefore => ⟨(hruns hbefore).busy, (hruns hbefore).index⟩, fun u hlast hstep => ?_⟩
  obtain ⟨hinv, hbusyLast, hindex, hconfig⟩ := hruns (by omega)
  have htotal : t.total = s.total := congrArg (·.2.2.2) hconfig
  obtain ⟨hdone, hend, hlength⟩ := hinv.last_sampleStep hbusyLast (by rw [hindex, htotal, hlast]) hstep
  have hconfigEnd := (runConfig_of_sampleStepOp hstep).trans hconfig
  simp only [runConfig, Prod.mk.injEq] at hconfigEnd
  obtain ⟨htier, hchannels, hperiods, htotalEnd⟩ := hconfigEnd
  refine ⟨hdone, hend.index.trans htotalEnd, htotalEnd, hend.entries, ?_⟩
  rw [hlength, hchannels, hperiods, periodOf, runConsts, htier, periodOf, runConsts]

end Sys2Proof.Machine
